-- ==== Sys2Proof/Word.lean ====
section
/-! DEFINITION. The words and index types of the DV2432: bytes of frames, coefficients, samples, TDM slots, and the numbers
that name sources, returns, conferences, keys and tags (00_scope.md, Names used throughout, and Numbers). -/

namespace Sys2Proof

/-- A byte of a control frame (R169). -/
abbrev Byte := BitVec 8
/-- A coefficient: an unsigned gain from 0 to 65535, unity at 16384 (00_scope.md, Numbers). -/
abbrev Coeff := BitVec 16
/-- An audio sample: 24-bit two's complement (00_scope.md, Numbers). -/
abbrev Sample := BitVec 24
/-- The 32 bit periods of one TDM slot, the first bit period most significant (R132, R173). -/
abbrev SlotWord := BitVec 32
/-- An index set as R172 writes it: bit i is set when index i is in the set. -/
abbrev IndexSet := BitVec 32

/-- S0 to S31. -/
abbrev SourceId := Fin 32
/-- return 0 to return 23. -/
abbrev ReturnId := Fin 24
/-- K0 to K3. -/
abbrev ConferenceId := Fin 4
/-- KEY0 to KEY7. -/
abbrev KeyId := Fin 8
/-- A tag from 1 to 15, held as its number less one, so that no other number can be named (R82). -/
abbrev TagId := Fin 15

/-- The level of a contact line (R89). -/
inductive Level where
  | low
  | high
deriving DecidableEq, Repr

/-- The three control ports (10_control_ports.md). -/
inductive Port where
  | console
  | screener
  | talkback
deriving DecidableEq, Repr

end Sys2Proof
end

