-- ==== Sys2Proof/Machine/Bytes.lean ====
section
/-! DEFINITION. Byte order: multi-byte fields are sent most significant byte first (R169), bytes most significant bit first (R158). -/

namespace Sys2Proof.Machine

/-- The bits of a byte in the order they are sent, most significant first (R158). -/
def byteBits (b : Byte) : List Bool :=
  [b.getLsbD 7, b.getLsbD 6, b.getLsbD 5, b.getLsbD 4, b.getLsbD 3, b.getLsbD 2, b.getLsbD 1, b.getLsbD 0]

/-- The byte of eight bits, the first sent most significant (R158). -/
def bitsByte (b7 b6 b5 b4 b3 b2 b1 b0 : Bool) : Byte := BitVec.ofBoolListBE [b7, b6, b5, b4, b3, b2, b1, b0]

/-- The whole bytes of a sequence of bits; the bits of a last byte that was not completed are discarded (R158). -/
def wholeBytes : List Bool → List Byte
  | b7 :: b6 :: b5 :: b4 :: b3 :: b2 :: b1 :: b0 :: rest => bitsByte b7 b6 b5 b4 b3 b2 b1 b0 :: wholeBytes rest
  | _ => []

/-- The two bytes of a 16-bit field, most significant first (R169). -/
def be16 (w : BitVec 16) : List Byte := [w.extractLsb' 8 8, w.extractLsb' 0 8]

/-- The three bytes of a 24-bit field, most significant first (R169). -/
def be24 (w : BitVec 24) : List Byte := [w.extractLsb' 16 8, w.extractLsb' 8 8, w.extractLsb' 0 8]

/-- The four bytes of an index set, most significant first (R172). -/
def be32 (w : BitVec 32) : List Byte :=
  [w.extractLsb' 24 8, w.extractLsb' 16 8, w.extractLsb' 8 8, w.extractLsb' 0 8]

/-- A number as one byte (R169). -/
def byteOf (n : Nat) : Byte := BitVec.ofNat 8 n

/-- A count as two bytes (R169). -/
def count16 (n : Nat) : List Byte := be16 (BitVec.ofNat 16 n)

/-- A sample magnitude or a frame count as three bytes (R169). -/
def count24 (n : Nat) : List Byte := be24 (BitVec.ofNat 24 n)

/-- A flag as one byte (R169). -/
def flagByte (b : Bool) : Byte := if b then 1 else 0

/-- A source, return, conference or key, or 0xFF for none (R169). -/
def indexByte {n : Nat} : Option (Fin n) → Byte
  | some i => byteOf i.val
  | none => 0xFF

end Sys2Proof.Machine
end

