-- ==== Sys2Proof/Machine/CommandTable.lean ====
section
/-! DEFINITION. The direction bytes of a transaction (R158), the command codes, their owners and the lengths of their parameters (R164, R165, R170, R171), and the result
codes (R166). -/

namespace Sys2Proof.Machine

/-- The direction byte of a COMMAND transaction (R158). -/
def commandDirection : Byte := 0x5A

/-- The direction byte of a FETCH transaction (R158). -/
def fetchDirection : Byte := 0xA5

/-- What a transaction does (R158). -/
inductive Direction where
  | command
  | fetch
deriving DecidableEq, Repr

/-- The transaction that a direction byte names, if any (R158). -/
def directionOf (d : Byte) : Option Direction :=
  if d = commandDirection then some .command else if d = fetchDirection then some .fetch else none

/-- Result codes (R166). -/
inductive ResultCode where
  | ok
  | unknown
  | length
  | notOwner
  | invalid
  | state
  | notReady
  | inUse
  | full
  | duplicate
  | notFound
  | noTarget
  | noListener
  | refused
deriving DecidableEq, Repr

/-- The byte of a result code (R166). -/
def ResultCode.byte : ResultCode → Byte
  | .ok => 0x00
  | .unknown => 0x01
  | .length => 0x02
  | .notOwner => 0x03
  | .invalid => 0x04
  | .state => 0x05
  | .notReady => 0x06
  | .inUse => 0x07
  | .full => 0x08
  | .duplicate => 0x09
  | .notFound => 0x0A
  | .noTarget => 0x0B
  | .noListener => 0x0C
  | .refused => 0x0D

/-- Who owns a command code (R165). -/
inductive Owner where
  | anyPort
  | onlyPort (port : Port)
deriving DecidableEq, Repr

/-- Whether a port takes the commands of an owner (R165). -/
def Owner.admits : Owner → Port → Bool
  | .anyPort, _ => true
  | .onlyPort q, p => decide (q = p)

/-- The owner of a code; none for a code that names no command (R165). -/
def codeOwner (code : Byte) : Option Owner :=
  let c := code.toNat
  if 0x01 ≤ c ∧ c ≤ 0x09 then some .anyPort
  else if 0x20 ≤ c ∧ c ≤ 0x2C then some (.onlyPort .console)
  else if 0x30 ≤ c ∧ c ≤ 0x38 then some (.onlyPort .screener)
  else if 0x40 ≤ c ∧ c ≤ 0x48 then some (.onlyPort .talkback)
  else none

/-- The parameter lengths that fit a code: exactly the fixed length, or the fixed part and whole entries (R164, R170, R171). -/
def paramLengthFits (code : Byte) (n : Nat) : Bool :=
  match code.toNat with
  | 0x04 | 0x09 => n == 0
  | 0x08 | 0x20 | 0x29 | 0x35 | 0x36 | 0x41 => n == 2
  | 0x21 => n % 3 == 0
  | 0x22 => n % 2 == 0
  | 0x25 => n % 7 == 0
  | 0x26 => decide (1 ≤ n)
  | 0x2A => n == 4
  | 0x2B => n == 7
  | 0x38 | 0x40 | 0x44 => n == 5
  | 0x42 | 0x43 => n == 3
  | 0x45 => n == 8
  | _ => n == 1

end Sys2Proof.Machine
end

