-- ==== Sys2Proof/Syntax.lean ====
section
/-! DEFINITION. The commands of the DV2432: one constructor for each row of spec/opcode_table.json, in the table's order, with
the operands the spec gives it. A controller command's operands are the fields of its parameters in R170 and R171, as the bytes
a frame carries: out-of-range bytes are operands too, since the owning block refuses or clamps them (R166). -/

namespace Sys2Proof

/-- What a port takes in after the direction byte of a transaction, up to select's rise: the whole bytes, and the bits of a last byte that
was not completed (R158). -/
structure Clocked where
  bytes : List Byte
  tail : List Bool
deriving DecidableEq, Repr

/-- A transaction of no effect: every bit taken in while select was low, and whether it was abandoned, its select low as a device reset
began or ended (R158). -/
structure Stray where
  bits : List Bool
  abandoned : Bool
deriving DecidableEq, Repr

/-- The steps of the part, each whole and indivisible (spec/95_what_each_step_holds.md). -/
inductive Instr where
  /-- COMMAND_TRANSACTION (R159, R160, R164), as select rises: the frame taken in after the direction byte 0x5A. -/
  | commandTransaction (port : Port) (frame : Clocked)
  /-- FETCH (R161): what is taken in after the direction byte 0xA5. -/
  | fetch (port : Port) (dataIn : Clocked)
  /-- INVALID_TRANSACTION (R158): an unknown direction byte, fewer than eight bits, or abandoned at a device reset. -/
  | invalidTransaction (port : Port) (stray : Stray)
  /-- READ_SOURCE (R170). -/
  | readSource (port : Port) (source : Byte)
  /-- READ_RETURN (R41). -/
  | readReturn (port : Port) (ret : Byte)
  /-- READ_CONFERENCE (R55). -/
  | readConference (port : Port) (conference : Byte)
  /-- READ_STATUS (R167). -/
  | readStatus (port : Port)
  /-- READ_KEY (R98). -/
  | readKey (port : Port) (key : Byte)
  /-- ACKNOWLEDGE (R177). -/
  | acknowledge (port : Port) (kinds : Byte)
  /-- SET_NOTICE_MASK (R175). -/
  | setNoticeMask (port : Port) (kinds : Byte)
  /-- READ_CELL (R117). -/
  | readCell (port : Port) (row source : Byte)
  /-- READ_WATCH (R157). -/
  | readWatch (port : Port)
  /-- SET_SOURCE_KIND (R4). -/
  | setSourceKind (source kind : Byte)
  /-- SET_FADERS (R7). -/
  | setFaders (entries : List (Byte × Coeff))
  /-- SET_SOURCE_ON (R8). -/
  | setSourceOn (entries : List (Byte × Byte))
  /-- TAKE (R13). -/
  | take (source : Byte)
  /-- DROP (R14). -/
  | drop (source : Byte)
  /-- SET_RETURN (R32): entries of return, level, ceiling and default feed. -/
  | setReturn (entries : List (Byte × Coeff × BitVec 24 × Byte))
  /-- SET_MINUS_LIST (R29). -/
  | setMinusList (ret : Byte) (sources : List Byte)
  /-- CLEAR_RETURN (R35). -/
  | clearReturn (ret : Byte)
  /-- SET_AIR_FEED (R18). -/
  | setAirFeed (source : Byte)
  /-- SET_AIR_DELAY (R19), in milliseconds. -/
  | setAirDelay (delay : BitVec 16)
  /-- SET_RAMP_STEPS (R131). -/
  | setRampSteps (programStep talkStep : BitVec 16)
  /-- SET_WATCH (R155). -/
  | setWatch (watchCode : Byte) (clipThreshold : BitVec 16) (silenceThreshold : BitVec 24) (silenceTime : Byte)
  /-- SELECT_MONITOR (R40). -/
  | selectMonitor (ret : Byte)
  /-- ATTACH (R10). -/
  | attach (source : Byte)
  /-- DETACH (R15, R16). -/
  | detach (source : Byte)
  /-- SCREEN (R11). -/
  | screen (source : Byte)
  /-- PARK (R11). -/
  | park (source : Byte)
  /-- MARK_READY (R12). -/
  | markReady (source : Byte)
  /-- ATTACH_RETURN (R25). -/
  | attachReturn (ret source : Byte)
  /-- JOIN (R46). -/
  | join (source conference : Byte)
  /-- LEAVE (R49). -/
  | leave (source : Byte)
  /-- SET_CONFERENCE (R50). -/
  | setConference (conference : Byte) (gain bed : Coeff)
  /-- TALK_DIRECT (R58): a target byte below 0x80; `ret` is its low seven bits (R171). -/
  | talkDirect (originator : Byte) (ret : BitVec 7) (mode priority holdCode : Byte)
  /-- TALK_TAG (R84): a target byte of 0x80 and above; `tag` is its low seven bits (R171). -/
  | talkTag (originator : Byte) (tag : BitVec 7) (mode priority holdCode : Byte)
  /-- RELEASE_DIRECT (R67). -/
  | releaseDirect (originator : Byte) (ret : BitVec 7)
  /-- RELEASE_TAG (R88). -/
  | releaseTag (originator : Byte) (tag : BitVec 7)
  /-- SET_TALK_LEVEL (R77). -/
  | setTalkLevel (source : Byte) (level : Coeff)
  /-- SET_DIP_LEVEL (R78). -/
  | setDipLevel (ret : Byte) (level : Coeff)
  /-- SET_TAGS (R82): three tag positions and a deaf mode. -/
  | setTags (ret tag0 tag1 tag2 deaf : Byte)
  /-- BIND_KEY (R96). -/
  | bindKey (key originator target mode priority holdCode pressLevel keyMode : Byte)
  /-- UNBIND_KEY (R97). -/
  | unbindKey (key : Byte)
  /-- CLEAR_REFUSALS (R66). -/
  | clearRefusals (ret : Byte)
  /-- SET_DEBOUNCE (R91), in milliseconds. -/
  | setDebounce (time : Byte)
  /-- FRAME_ARRIVAL (R119, R133): the 32 slots of the frame, input lane n, slot m at index 8n + m. -/
  | frameArrival (slots : Vector SlotWord 32)
  /-- SILENCE_LIMIT_REACHED (R146): the frame arrival with these slots, at which the source becomes SILENT. -/
  | silenceLimitReached (source : SourceId) (slots : Vector SlotWord 32)
  /-- WATCH_INTERVAL_EXPIRY (R153): the frame arrival with these slots, at which the watch interval expires. -/
  | watchIntervalExpiry (slots : Vector SlotWord 32)
  /-- AIR_EXIT_GUARD_EXPIRY (R22). -/
  | airExitGuardExpiry (source : SourceId)
  /-- HOLD_EXPIRY (R71). -/
  | holdExpiry (ret : ReturnId)
  /-- SHORT_FRAME (R133): a frame sync rising edge before the 256th bit period of the frame being collected. -/
  | shortFrame
  /-- SYNC_LOSS (R139). -/
  | syncLoss
  /-- KEY_LINE_CHANGE (R90): the line's new level. -/
  | keyLineChange (key : KeyId) (level : Level)
  /-- KEY_ACCEPTANCE (R92). -/
  | keyAcceptance (key : KeyId)
  /-- RECOMPOSE_TAKE (R112). -/
  | recomposeTake
  /-- RECOMPOSE_COMPLETION (R113). -/
  | recomposeCompletion
  /-- DEVICE_RESET (R142): power-on, or a RESET pulse that is a device reset. -/
  | deviceReset
  /-- DEVICE_RESET_END (R142). -/
  | deviceResetEnd
  /-- FRAME_SYNC_RISING_EDGE (R133, R135). -/
  | frameSyncRisingEdge
deriving DecidableEq, Repr

end Sys2Proof
end

