-- ==== Sys2Proof/Decode.lean ====
section
/-! DEFINITION. Commands and their words. The table gives no row any bits, so `decodeTableWord` spells no command. What the
spec does give is the command frame of each controller command (R165, R169 to R171): `commandFrame` writes it and
`decodeCommand` reads it back. -/

namespace Sys2Proof

open Machine (be16 be24)

/-- The command that a word spells by the bits of spec/opcode_table.json: no row of the table gives bits. -/
def decodeTableWord (_nbits _w : Nat) : Option Instr := none

/-- A command frame at a port: its code and its parameters (R169). -/
structure CommandFrame where
  port : Port
  code : Byte
  params : List Byte
deriving DecidableEq, Repr

/-- The bytes of a command frame: code, parameter length, parameters (R169). -/
def CommandFrame.bytes (f : CommandFrame) : List Byte := f.code :: BitVec.ofNat 8 f.params.length :: f.params

/-- The frame that carries a command to its port (R165, R170, R171); none for a step that no controller commands. -/
def commandFrame : Instr → Option CommandFrame
  | .readSource p s => some ⟨p, 0x01, [s]⟩
  | .readReturn p r => some ⟨p, 0x02, [r]⟩
  | .readConference p k => some ⟨p, 0x03, [k]⟩
  | .readStatus p => some ⟨p, 0x04, []⟩
  | .readKey p k => some ⟨p, 0x05, [k]⟩
  | .acknowledge p ks => some ⟨p, 0x06, [ks]⟩
  | .setNoticeMask p ks => some ⟨p, 0x07, [ks]⟩
  | .readCell p row s => some ⟨p, 0x08, [row, s]⟩
  | .readWatch p => some ⟨p, 0x09, []⟩
  | .setSourceKind s k => some ⟨.console, 0x20, [s, k]⟩
  | .setFaders es => some ⟨.console, 0x21, es.flatMap fun e => e.1 :: be16 e.2⟩
  | .setSourceOn es => some ⟨.console, 0x22, es.flatMap fun e => [e.1, e.2]⟩
  | .take s => some ⟨.console, 0x23, [s]⟩
  | .drop s => some ⟨.console, 0x24, [s]⟩
  | .setReturn es => some ⟨.console, 0x25, es.flatMap fun e => e.1 :: (be16 e.2.1 ++ be24 e.2.2.1 ++ [e.2.2.2])⟩
  | .setMinusList r ss => some ⟨.console, 0x26, r :: ss⟩
  | .clearReturn r => some ⟨.console, 0x27, [r]⟩
  | .setAirFeed s => some ⟨.console, 0x28, [s]⟩
  | .setAirDelay d => some ⟨.console, 0x29, be16 d⟩
  | .setRampSteps p t => some ⟨.console, 0x2A, be16 p ++ be16 t⟩
  | .setWatch w c t st => some ⟨.console, 0x2B, w :: (be16 c ++ be24 t ++ [st])⟩
  | .selectMonitor r => some ⟨.console, 0x2C, [r]⟩
  | .attach s => some ⟨.screener, 0x30, [s]⟩
  | .detach s => some ⟨.screener, 0x31, [s]⟩
  | .screen s => some ⟨.screener, 0x32, [s]⟩
  | .park s => some ⟨.screener, 0x33, [s]⟩
  | .markReady s => some ⟨.screener, 0x34, [s]⟩
  | .attachReturn r s => some ⟨.screener, 0x35, [r, s]⟩
  | .join s k => some ⟨.screener, 0x36, [s, k]⟩
  | .leave s => some ⟨.screener, 0x37, [s]⟩
  | .setConference k g b => some ⟨.screener, 0x38, k :: (be16 g ++ be16 b)⟩
  | .talkDirect o r m p h => some ⟨.talkback, 0x40, [o, BitVec.append (0#1) r, m, p, h]⟩
  | .talkTag o t m p h => some ⟨.talkback, 0x40, [o, BitVec.append (1#1) t, m, p, h]⟩
  | .releaseDirect o r => some ⟨.talkback, 0x41, [o, BitVec.append (0#1) r]⟩
  | .releaseTag o t => some ⟨.talkback, 0x41, [o, BitVec.append (1#1) t]⟩
  | .setTalkLevel s l => some ⟨.talkback, 0x42, s :: be16 l⟩
  | .setDipLevel r l => some ⟨.talkback, 0x43, r :: be16 l⟩
  | .setTags r a b c d => some ⟨.talkback, 0x44, [r, a, b, c, d]⟩
  | .bindKey k o t m p h l km => some ⟨.talkback, 0x45, [k, o, t, m, p, h, l, km]⟩
  | .unbindKey k => some ⟨.talkback, 0x46, [k]⟩
  | .clearRefusals r => some ⟨.talkback, 0x47, [r]⟩
  | .setDebounce t => some ⟨.talkback, 0x48, [t]⟩
  | .commandTransaction .. => none
  | .fetch .. => none
  | .invalidTransaction .. => none
  | .frameArrival .. => none
  | .silenceLimitReached .. => none
  | .watchIntervalExpiry .. => none
  | .airExitGuardExpiry .. => none
  | .holdExpiry .. => none
  | .shortFrame => none
  | .syncLoss => none
  | .keyLineChange .. => none
  | .keyAcceptance .. => none
  | .recomposeTake => none
  | .recomposeCompletion => none
  | .deviceReset => none
  | .deviceResetEnd => none
  | .frameSyncRisingEdge => none

/-- A parameter list read as whole entries of source and coefficient (SET FADERS, R170). -/
def readFaders : List Byte → Option (List (Byte × Coeff))
  | [] => some []
  | s :: a :: b :: rest => (readFaders rest).map ((s, a ++ b) :: ·)
  | _ => none

/-- A parameter list read as whole entries of source and on state (SET SOURCE ON, R170). -/
def readOnStates : List Byte → Option (List (Byte × Byte))
  | [] => some []
  | s :: o :: rest => (readOnStates rest).map ((s, o) :: ·)
  | _ => none

/-- A parameter list read as whole entries of return, level, ceiling and default feed (SET RETURN, R170). -/
def readReturnEntries : List Byte → Option (List (Byte × Coeff × BitVec 24 × Byte))
  | [] => some []
  | r :: l1 :: l0 :: c2 :: c1 :: c0 :: f :: rest =>
    (readReturnEntries rest).map ((r, l1 ++ l0, c2 ++ c1 ++ c0, f) :: ·)
  | _ => none

/-- The command that a code and its parameters stand for (R165, R170, R171); none where the code names no command or the
parameters do not fit it. The target byte's top bit chooses the form of TALK and RELEASE (R171). -/
def parseParams (p : Port) (code : Byte) (params : List Byte) : Option Instr :=
  match code.toNat with
  | 0x01 => match params with | [s] => some (.readSource p s) | _ => none
  | 0x02 => match params with | [r] => some (.readReturn p r) | _ => none
  | 0x03 => match params with | [k] => some (.readConference p k) | _ => none
  | 0x04 => match params with | [] => some (.readStatus p) | _ => none
  | 0x05 => match params with | [k] => some (.readKey p k) | _ => none
  | 0x06 => match params with | [ks] => some (.acknowledge p ks) | _ => none
  | 0x07 => match params with | [ks] => some (.setNoticeMask p ks) | _ => none
  | 0x08 => match params with | [row, s] => some (.readCell p row s) | _ => none
  | 0x09 => match params with | [] => some (.readWatch p) | _ => none
  | 0x20 => match params with | [s, k] => some (.setSourceKind s k) | _ => none
  | 0x21 => (readFaders params).map .setFaders
  | 0x22 => (readOnStates params).map .setSourceOn
  | 0x23 => match params with | [s] => some (.take s) | _ => none
  | 0x24 => match params with | [s] => some (.drop s) | _ => none
  | 0x25 => (readReturnEntries params).map .setReturn
  | 0x26 => match params with | r :: ss => some (.setMinusList r ss) | _ => none
  | 0x27 => match params with | [r] => some (.clearReturn r) | _ => none
  | 0x28 => match params with | [s] => some (.setAirFeed s) | _ => none
  | 0x29 => match params with | [a, b] => some (.setAirDelay (a ++ b)) | _ => none
  | 0x2A => match params with | [a, b, c, d] => some (.setRampSteps (a ++ b) (c ++ d)) | _ => none
  | 0x2B =>
    match params with
    | [w, c1, c0, t2, t1, t0, st] => some (.setWatch w (c1 ++ c0) (t2 ++ t1 ++ t0) st)
    | _ => none
  | 0x2C => match params with | [r] => some (.selectMonitor r) | _ => none
  | 0x30 => match params with | [s] => some (.attach s) | _ => none
  | 0x31 => match params with | [s] => some (.detach s) | _ => none
  | 0x32 => match params with | [s] => some (.screen s) | _ => none
  | 0x33 => match params with | [s] => some (.park s) | _ => none
  | 0x34 => match params with | [s] => some (.markReady s) | _ => none
  | 0x35 => match params with | [r, s] => some (.attachReturn r s) | _ => none
  | 0x36 => match params with | [s, k] => some (.join s k) | _ => none
  | 0x37 => match params with | [s] => some (.leave s) | _ => none
  | 0x38 => match params with | [k, g1, g0, b1, b0] => some (.setConference k (g1 ++ g0) (b1 ++ b0)) | _ => none
  | 0x40 =>
    match params with
    | [o, t, m, pr, h] =>
      if t.msb then some (.talkTag o (t.setWidth 7) m pr h) else some (.talkDirect o (t.setWidth 7) m pr h)
    | _ => none
  | 0x41 =>
    match params with
    | [o, t] => if t.msb then some (.releaseTag o (t.setWidth 7)) else some (.releaseDirect o (t.setWidth 7))
    | _ => none
  | 0x42 => match params with | [s, a, b] => some (.setTalkLevel s (a ++ b)) | _ => none
  | 0x43 => match params with | [r, a, b] => some (.setDipLevel r (a ++ b)) | _ => none
  | 0x44 => match params with | [r, a, b, c, d] => some (.setTags r a b c d) | _ => none
  | 0x45 => match params with | [k, o, t, m, pr, h, l, km] => some (.bindKey k o t m pr h l km) | _ => none
  | 0x46 => match params with | [k] => some (.unbindKey k) | _ => none
  | 0x47 => match params with | [r] => some (.clearRefusals r) | _ => none
  | 0x48 => match params with | [t] => some (.setDebounce t) | _ => none
  | _ => none

/-- The command a frame at a port stands for: its code names one, the port takes that code's owner, and the parameters fit
(R164, R165). -/
def decodeCommand (p : Port) (code : Byte) (params : List Byte) : Option Instr :=
  match Machine.codeOwner code with
  | none => none
  | some o => if o.admits p then parseParams p code params else none

end Sys2Proof
end

