-- ==== Sys2Proof/Config.lean ====
section
/-! DEFINITION. What the DV2432 fixes once: its gains, limits and reset settings, each from the rule that states it.
The spec leaves no value undefined, so this file holds no free value. -/

namespace Sys2Proof.Config

/-- Unity gain (00_scope.md, Numbers). -/
abbrev unity : Coeff := 16384
/-- The largest coefficient (00_scope.md, Numbers). -/
abbrev maxCoeff : Nat := 65535
/-- The largest sample magnitude a ceiling or a silence threshold may name (00_scope.md, Numbers). -/
abbrev maxMagnitude : Nat := 8388607
/-- The frames of one millisecond at 48 kHz (00_scope.md, Two kinds of time). -/
abbrev framesPerMs : Nat := 48
/-- The frames of one second at 48 kHz (00_scope.md, Two kinds of time). -/
abbrev framesPerSecond : Nat := 48000
/-- The longest air delay, in milliseconds (R19). -/
abbrev maxAirDelay : Nat := 40000
/-- The largest ramp step (R131). -/
abbrev maxStep : Nat := 4096
/-- The program step after device reset (R118). -/
abbrev resetProgramStep : Nat := 16
/-- The talk step after device reset (R118). -/
abbrev resetTalkStep : Nat := 128
/-- Requests a pending list may hold (R57). -/
abbrev maxWaiting : Nat := 3
/-- Members a conference may hold (R43). -/
abbrev maxMembers : Nat := 8
/-- Sources an extra minus list may hold (R23). -/
abbrev maxMinus : Nat := 4
/-- Where a refusal count stays (R65). -/
abbrev maxRefusals : Nat := 255
/-- Where a clip accumulator stays (R150). -/
abbrev maxClips : Nat := 65535
/-- The hold limit of hold code 0, in frames (R70). -/
abbrev holdBase : Nat := 96000
/-- The watch interval of watch code 0, in frames (R152). -/
abbrev watchBase : Nat := 12000
/-- The gap timer's full time, in microseconds of the internal time base (R136). -/
abbrev gapMicros : Nat := 1000
/-- The largest parameter length of a command frame (R164). -/
abbrev maxParams : Nat := 250

end Sys2Proof.Config
end

