-- ==== Sys2Proof/Machine/State.lean ====
section
/-! DEFINITION. The state of the DV2432 as plain data: every table, queue, timer, buffer, setting and pin the spec gives the
part, the queue of commands that wait (the model's own), and the machine right after device reset. INVENTORY.md lists each
field with its rule. -/

namespace Sys2Proof.Machine

/-! ## Contributor Table (R1) -/

/-- What is connected to a source's slot (R3). -/
inductive Kind where
  | unused
  | caller
  | codec
  | studio
  | playout
  | talkback
  | air
deriving DecidableEq, Repr

/-- The contributor stage (R9). -/
inductive Stage where
  | vacant
  | screen
  | hold
  | ready
  | air
deriving DecidableEq, Repr

/-- A source record (R1). The guard is none when it does not run; `some 0` is a guard whose expiry is due (log entry 6). -/
structure Source where
  kind : Kind
  stage : Stage
  fader : Coeff
  on : Bool
  talkLevel : Coeff
  guard : Option Nat
  conference : Option ConferenceId
  silent : Bool
  silenceCount : Nat
deriving DecidableEq, Repr

/-! ## Return Table (R23) -/

/-- A base feed or a default feed (R23, R37). -/
inductive Feed where
  | program
  | air
  | silent
deriving DecidableEq, Repr

/-- How a return answers group requests (5.1). -/
inductive DeafMode where
  | normal
  | deaf
  | refuse
deriving DecidableEq, Repr

/-- A return record (R23). -/
structure Return where
  attached : Option SourceId
  minusList : List SourceId
  defaultFeed : Feed
  level : Coeff
  ceiling : Nat
  tags : Vector (Option TagId) 3
  deaf : DeafMode
  dipLevel : Coeff
  refusals : Nat
deriving DecidableEq, Repr

/-! ## Conference Table (R43) -/

/-- A conference record: the members in the order they joined, the conference gain G and the bed gain B (R43). -/
structure Conference where
  members : List SourceId
  gain : Coeff
  bed : Coeff
deriving DecidableEq, Repr

/-! ## Talkback Arbiter (R56, R57) -/

/-- What a TALK names (R56). -/
inductive Target where
  | ret (r : ReturnId)
  | tag (t : TagId)
deriving DecidableEq, Repr

/-- How a request reached its return (R56). -/
inductive Via where
  | direct
  | tag (t : TagId)
deriving DecidableEq, Repr

/-- The talkback mode (R56). -/
inductive Mode where
  | cut
  | dip
deriving DecidableEq, Repr

/-- Where a request came from (R56). -/
inductive Origin where
  | port
  | key (n : KeyId)
deriving DecidableEq, Repr

/-- A request record (R56). -/
structure Request where
  originator : SourceId
  target : Target
  via : Via
  mode : Mode
  priority : Fin 4
  holdCode : Fin 8
  origin : Origin
deriving DecidableEq, Repr

/-- The active request and the frames its hold timer has left (R57, R70); 0 is an expiry that is due (log entry 6). -/
structure Active where
  request : Request
  remaining : Nat
deriving DecidableEq, Repr

/-- The arbitration state of one return: the active request and the pending list, its head first (R57). -/
structure Arbitration where
  active : Option Active
  waiting : List Request
deriving DecidableEq, Repr

/-! ## Key Input Block (R89) -/

/-- The key mode (R89). -/
inductive KeyMode where
  | momentary
  | latch
deriving DecidableEq, Repr

/-- A key's request template (R89). -/
structure Binding where
  originator : SourceId
  target : Target
  mode : Mode
  priority : Fin 4
  holdCode : Fin 8
deriving DecidableEq, Repr

/-- The debounce state: idle, or waiting with the milliseconds left (R89, R90). -/
inductive Debounce where
  | idle
  | waiting (remaining : Nat)
deriving DecidableEq, Repr

/-- The three counts of a group TALK (R87). -/
structure TalkCounts where
  active : Nat
  queued : Nat
  refused : Nat
deriving DecidableEq, Repr

/-- A key's last outcome (R89, R95). `refused` keeps the counts of a group TALK that no return took, and zeros otherwise;
`talked` is a group TALK taken on at least one return. -/
inductive KeyOutcome where
  | none
  | active
  | queued (position : Nat)
  | refused (code : ResultCode) (counts : TalkCounts)
  | released (number : Nat)
  | notFound
  | talked (counts : TalkCounts)
deriving DecidableEq, Repr

/-- A key record (R89) and the level of its contact line, an input pin. -/
structure Key where
  binding : Option Binding
  pressLevel : Level
  keyMode : KeyMode
  accepted : Level
  debounce : Debounce
  pressCounted : Bool
  lastOutcome : KeyOutcome
  line : Level
deriving DecidableEq, Repr

/-! ## Coefficient Composer and Mix Engine (R100, R109, R118) -/

/-- A row of the cell array (R100). -/
inductive Row where
  | program
  | ret (r : ReturnId)
deriving DecidableEq, Repr

/-- A cell (R100). -/
structure Cell where
  target : Coeff
  current : Coeff
  step : Nat
deriving DecidableEq, Repr

/-- An entry of the recompose queue: a row and its talk-cause flag (R109). -/
structure QueueEntry where
  row : Row
  talk : Bool
deriving DecidableEq, Repr

/-- The row in flight, the flag it carries, and the targets its recomposition works out from the tables as they stood at the
take (R109, R112, R113). -/
structure InFlight where
  row : Row
  talk : Bool
  targets : Vector Coeff 32
deriving DecidableEq, Repr

/-! ## Audio lanes and Frame Sync Monitor (R133, R136) -/

/-- The lanes' frame assembly (R133): waiting, or collecting with the bit periods taken in so far, 0 to 255. -/
inductive Assembly where
  | waiting
  | collecting (count : Nat)
deriving DecidableEq, Repr

/-- The sync state (R136). -/
inductive SyncState where
  | seeking
  | locked
  | lost
deriving DecidableEq, Repr

/-! ## Level Monitor (R143) -/

/-- The clip record of a return (R143). -/
structure Clip where
  count : Nat
  captured : Nat
  overThreshold : Bool
deriving DecidableEq, Repr

/-! ## Ports and Notice Unit (R160, R174) -/

/-- A port's command slot (R160): a working slot holds the code and parameters of its command, a done slot the echoed code, the
result and the body of its response. -/
inductive Slot where
  | empty
  | working (code : Byte) (params : List Byte)
  | done (code : Byte) (result : ResultCode) (body : List Byte)
deriving DecidableEq, Repr

/-- A port's pending notice map (R174): one index set for each of the bits 0 to 4 of R172, and the SYNC CHANGE flag. -/
structure NoticeMap where
  sets : Vector IndexSet 5
  sync : Bool
deriving DecidableEq, Repr

/-- A port: its slot and overrun flag, the bits its data-out pin sent in its last COMMAND or FETCH transaction (log entry 8), its notice map and its mask (R160, R161, R174, R175). -/
structure PortState where
  slot : Slot
  overrun : Bool
  dataOut : List Bool
  notices : NoticeMap
  mask : Byte
deriving DecidableEq, Repr

/-- The place of a port in the table of ports. -/
def portIndex : Port → Fin 3
  | .console => 0
  | .screener => 1
  | .talkback => 2

/-- The place of a row in the cell array, as R169 numbers rows. -/
def rowIndex : Row → Fin 25
  | .ret r => r.castSucc
  | .program => 24

/-! ## The machine -/

/-- The state of the DV2432. -/
structure State where
  ports : Vector PortState 3
  sources : Vector Source 32
  airFeed : Option SourceId
  airDelay : Nat
  returns : Vector Return 24
  monitor : Option ReturnId
  conferences : Vector Conference 4
  arbiter : Vector Arbitration 24
  keys : Vector Key 8
  debounceTime : Nat
  cells : Vector (Vector Cell 32) 25
  queue : List QueueEntry
  inFlight : Option InFlight
  programStep : Nat
  talkStep : Nat
  held : Vector Sample 32
  assembly : Assembly
  outFrame : Option (Vector SlotWord 32)
  sync : SyncState
  gap : Option Nat
  clips : Vector Clip 24
  watchCode : Nat
  clipThreshold : Nat
  silenceThreshold : Nat
  silenceTime : Nat
  watchRemaining : Nat
  lossMark : Bool
  inReset : Bool
  pending : List Instr
deriving DecidableEq, Repr

/-- Why the machine stops: the spec describes no event that stops the part, so there is no such reason. -/
inductive Fault where
deriving DecidableEq, Repr

/-- Why a command has no outcome. -/
inductive Refusal where
  /-- Raised by exec for a command whose meaning is not written; no arm of exec raises it. Safe: the machine stops. -/
  | notModelled (mnemonic : String)
deriving DecidableEq, Repr

/-- A source record after device reset (R2). -/
def Source.reset : Source :=
  { kind := .unused, stage := .vacant, fader := 0, on := false, talkLevel := 16384, guard := none, conference := none,
    silent := false, silenceCount := 0 }

/-- A return record after device reset (R24). -/
def Return.reset : Return :=
  { attached := none, minusList := [], defaultFeed := .silent, level := 16384, ceiling := 8388607,
    tags := Vector.replicate 3 none, deaf := .normal, dipLevel := 4096, refusals := 0 }

/-- A conference record after device reset (R43). -/
def Conference.reset : Conference := { members := [], gain := 16384, bed := 8192 }

/-- An arbitration record after device reset (R57). -/
def Arbitration.reset : Arbitration := { active := none, waiting := [] }

/-- A key record after device reset, its line HIGH (R89; the line's level: log entry 9). -/
def Key.reset : Key :=
  { binding := none, pressLevel := .low, keyMode := .momentary, accepted := .high, debounce := .idle, pressCounted := false,
    lastOutcome := .none, line := .high }

/-- A cell after device reset (R100). -/
def Cell.reset : Cell := { target := 0, current := 0, step := 16 }

/-- A clip record after device reset (R143). -/
def Clip.reset : Clip := { count := 0, captured := 0, overThreshold := false }

/-- A port after device reset (R160, R174, R175). -/
def PortState.reset : PortState :=
  { slot := .empty, overrun := false, dataOut := [], notices := { sets := Vector.replicate 5 0, sync := false }, mask := 0 }

/-- The machine right after a device reset has ended with every key line HIGH (R2, R24, R43, R57, R89, R91, R100, R109, R118,
R133, R136, R142, R143, R160, R174, R175). -/
def State.reset : State where
  ports := Vector.replicate 3 PortState.reset
  sources := Vector.replicate 32 Source.reset
  airFeed := none
  airDelay := 0
  returns := Vector.replicate 24 Return.reset
  monitor := none
  conferences := Vector.replicate 4 Conference.reset
  arbiter := Vector.replicate 24 Arbitration.reset
  keys := Vector.replicate 8 Key.reset
  debounceTime := 5
  cells := Vector.replicate 25 (Vector.replicate 32 Cell.reset)
  queue := []
  inFlight := none
  programStep := 16
  talkStep := 128
  held := Vector.replicate 32 0
  assembly := .waiting
  outFrame := none
  sync := .seeking
  gap := none
  clips := Vector.replicate 24 Clip.reset
  watchCode := 2
  clipThreshold := 65535
  silenceThreshold := 265
  silenceTime := 10
  watchRemaining := 48000
  lossMark := false
  inReset := false
  pending := []

end Sys2Proof.Machine
end

