-- ==== Sys2Proof/Machine/Flags.lean ====
section
/-! DEFINITION. Notices, masks and attention lines (11_notices_and_attention.md, R172): which kinds a port has, where their bits
stand, which kinds are pending, and when an attention line is asserted. -/

namespace Sys2Proof.Machine

/-- The notice kinds that carry an index (R174). SYNC CHANGE is the plain flag of the map. -/
inductive NoticeKind where
  | forcedDrop
  | readyMarked
  | silenceChange
  | clipReport
  | clipThreshold
  | stageChanged
  | conferenceExit
  | interruptStarted
  | holdExpired
  | requestDisplaced
  | listenerGone
  | keyEvent
deriving DecidableEq, Repr

/-- The port whose controller a kind concerns (R174). -/
def NoticeKind.port : NoticeKind → Port
  | .forcedDrop | .readyMarked | .silenceChange | .clipReport | .clipThreshold => .console
  | .stageChanged | .conferenceExit => .screener
  | .interruptStarted | .holdExpired | .requestDisplaced | .listenerGone | .keyEvent => .talkback

/-- The bit of a kind in its port's kind sets (R172). -/
def NoticeKind.bit : NoticeKind → Fin 5
  | .forcedDrop | .stageChanged | .interruptStarted => 0
  | .readyMarked | .conferenceExit | .holdExpired => 1
  | .silenceChange | .requestDisplaced => 2
  | .clipReport | .listenerGone => 3
  | .clipThreshold | .keyEvent => 4

/-- How many of the bits 0 to 4 name a kind of the port (R172). -/
def kindCount : Port → Nat
  | .console => 5
  | .screener => 2
  | .talkback => 5

/-- The kind set of every kind a port has, SYNC CHANGE at bit 7 included (R172). -/
def allKinds : Port → Byte
  | .console => 0x9F
  | .screener => 0x83
  | .talkback => 0x9F

/-- Whether a kind set names kinds of the port alone (R172, R175, R177). -/
def kindsLegal (p : Port) (kinds : Byte) : Bool := kinds &&& ~~~(allKinds p) == 0

/-- An index set with one index added; an index already present stays present once (R174). -/
def addIndex (set : IndexSet) (i : Nat) : IndexSet := set ||| BitVec.twoPow 32 i

/-- Whether an index is in an index set (R172). -/
def hasIndex (set : IndexSet) (i : Nat) : Bool := set.getLsbD i

/-- The kind set of the kinds that are pending in a map: a kind is pending while its set is not empty, SYNC CHANGE while its flag is
set (R174, R172). -/
def pendingKinds (m : NoticeMap) : Byte :=
  (List.finRange 5).foldl (fun acc b => if m.sets[b] = 0 then acc else acc ||| BitVec.twoPow 8 b.val)
    (if m.sync then 0x80 else 0)

/-- Whether a port's attention line is asserted: some pending kind is enabled in its mask (R176). -/
def PortState.attention (q : PortState) : Bool := pendingKinds q.notices &&& q.mask != 0

/-- The map as an ACKNOWLEDGE leaves it: each named kind emptied (R177). -/
def NoticeMap.clear (m : NoticeMap) (kinds : Byte) : NoticeMap :=
  { sets := Vector.ofFn fun b : Fin 5 => if kinds.getLsbD b.val then 0 else m.sets[b]
    sync := m.sync && !kinds.getLsbD 7 }

/-- The body of an ACKNOWLEDGE response (R172): the kind set of the pending kinds, then the index set of each kind of the port in
bit order. -/
def mapBytes (index : IndexSet → List Byte) (p : Port) (m : NoticeMap) : List Byte :=
  pendingKinds m :: (m.sets.toList.take (kindCount p)).flatMap index

end Sys2Proof.Machine
end

