-- ==== Sys2Proof/Machine/Ops.lean ====
section
/-! DEFINITION. The named operations over the tables: one writer for each kind of record, the marking of rows (R110, R111), the
raising of notices (R174), and the command slot of a port (R160 to R164). -/

namespace Sys2Proof.Machine

/-! ## Records -/

/-- The state of a port. -/
def State.port (s : State) (p : Port) : PortState := s.ports[portIndex p]

/-- A port rewritten. -/
def State.setPort (s : State) (p : Port) (q : PortState) : State := { s with ports := s.ports.set (portIndex p) q }

/-- A source record rewritten. -/
def State.setSource (s : State) (i : SourceId) (x : Source) : State := { s with sources := s.sources.set i x }

/-- A return record rewritten. -/
def State.setReturn (s : State) (r : ReturnId) (x : Return) : State := { s with returns := s.returns.set r x }

/-- A conference record rewritten. -/
def State.setConference (s : State) (k : ConferenceId) (x : Conference) : State :=
  { s with conferences := s.conferences.set k x }

/-- An arbitration record rewritten. -/
def State.setArbitration (s : State) (r : ReturnId) (a : Arbitration) : State := { s with arbiter := s.arbiter.set r a }

/-- A key record rewritten. -/
def State.setKey (s : State) (n : KeyId) (k : Key) : State := { s with keys := s.keys.set n k }

/-- The cells of a row (R100). -/
def State.row (s : State) (ρ : Row) : Vector Cell 32 := s.cells[rowIndex ρ]

/-- The cells of a row rewritten. -/
def State.setRow (s : State) (ρ : Row) (cs : Vector Cell 32) : State := { s with cells := s.cells.set (rowIndex ρ) cs }

/-! ## Notices -/

/-- A notice raised: its index joins the kind's set at its port (R174). -/
def State.raise (s : State) (k : NoticeKind) (i : Nat) : State :=
  let q := s.port k.port
  s.setPort k.port { q with notices := { q.notices with sets := q.notices.sets.set k.bit (addIndex q.notices.sets[k.bit] i) } }

/-- SYNC CHANGE raised at the three ports (R137, R139, R174). -/
def State.raiseSyncChange (s : State) : State :=
  { s with ports := s.ports.map fun q => { q with notices := { q.notices with sync := true } } }

/-- A port's attention line (R176). -/
def State.attention (s : State) (p : Port) : Bool := (s.port p).attention

/-! ## Marking rows -/

/-- The queue after a mark (R110): a queued row keeps its place and takes the cause, any other row is appended. -/
def markQueue (q : List QueueEntry) (ρ : Row) (talk : Bool) : List QueueEntry :=
  if q.any (fun e => e.row == ρ) then q.map fun e => if e.row = ρ then { e with talk := e.talk || talk } else e
  else q ++ [{ row := ρ, talk := talk }]

/-- One row marked dirty, with or without talk cause (R110). -/
def State.mark (s : State) (ρ : Row) (talk : Bool) : State := { s with queue := markQueue s.queue ρ talk }

/-- The order in which one event appends the rows it marks: the program row, then the return rows ascending (R111). -/
def rowOrder : List Row := .program :: (List.finRange 24).map .ret

/-- The rows that satisfy `p` marked dirty in one event, without talk cause (R110, R111). -/
def State.markRows (s : State) (p : Row → Bool) : State :=
  (rowOrder.filter p).foldl (fun t ρ => t.mark ρ false) s

/-- Every row (R7, R13, R14, R16). -/
def everyRow : Row → Bool := fun _ => true

/-- Every return row (R18). -/
def everyReturnRow : Row → Bool
  | .program => false
  | .ret _ => true

/-- The row of one return. -/
def onlyReturn (r : ReturnId) : Row → Bool := fun ρ => decide (ρ = .ret r)

/-- The rows of the returns attached to a source (R10 to R12). -/
def State.attachedRow (s : State) (i : SourceId) : Row → Bool
  | .program => false
  | .ret r => decide (s.returns[r].attached = some i)

/-- The rows of the returns attached to the members of a conference (R45). -/
def State.memberRow (s : State) (k : ConferenceId) : Row → Bool
  | .program => false
  | .ret r => match s.returns[r].attached with
    | none => false
    | some a => s.conferences[k].members.contains a

/-- The minus set of a return: its extra minus list and its attached source (R31). -/
def State.inMinusSet (s : State) (r : ReturnId) (i : SourceId) : Bool :=
  s.returns[r].minusList.contains i || decide (s.returns[r].attached = some i)

/-- The return rows whose minus set holds a source (R15, R22). -/
def State.minusRow (s : State) (i : SourceId) : Row → Bool
  | .program => false
  | .ret r => s.inMinusSet r i

/-! ## The command slot -/

/-- What the owning block answers: a result and a body (R162, R166). -/
structure Answer where
  result : ResultCode
  body : List Byte
deriving DecidableEq, Repr

/-- OK with a body (R170, R171). -/
def ok (body : List Byte) : Answer := { result := .ok, body := body }

/-- A refusal with an empty body (R166). -/
def refuse (r : ResultCode) : Answer := { result := r, body := [] }

/-- What the port's checks give (R164): a command for its owning block, or the echoed code and the result of the failure. -/
inductive PortCheck where
  | passed (code : Byte) (params : List Byte)
  | failed (echo : Byte) (result : ResultCode)
deriving DecidableEq, Repr

/-- The checks at the port, in order: frame structure, code, owner, parameter format (R164). -/
def portCheck (p : Port) : List Byte → PortCheck
  | [] => .failed 0 .length
  | [c] => .failed c .length
  | c :: n :: ps =>
    if n.toNat > Config.maxParams ∨ ps.length ≠ n.toNat then .failed c .length
    else match codeOwner c with
      | none => .failed c .unknown
      | some o =>
        if ¬ o.admits p then .failed c .notOwner
        else if ¬ paramLengthFits c ps.length then .failed c .length
        else .passed c ps

/-- The slot after a taken command has been checked at the port (R162): a failure is answered at once. -/
def slotAfterCheck : PortCheck → Slot
  | .passed code params => .working code params
  | .failed echo result => .done echo result []

/-- The bits a COMMAND transaction with a whole frame takes in (R159, R169). -/
def frameBits (frame : List Byte) : List Bool := (commandDirection :: frame).flatMap byteBits

/-- A command's arrival at a port's slot as select rises (R160): taken by an EMPTY or DONE slot and checked, discarded by a WORKING one;
an unfetched response is discarded; each loss sets the overrun flag. The data-out pin has sent a zero for each of the `clocked` bits of
the transaction (R159). -/
def State.arrive (s : State) (p : Port) (frame : List Byte) (clocked : Nat) : State :=
  let q := { s.port p with dataOut := List.replicate clocked false }
  match q.slot with
  | .empty => s.setPort p { q with slot := slotAfterCheck (portCheck p frame) }
  | .working _ _ => s.setPort p { q with overrun := true }
  | .done _ _ _ => s.setPort p { q with slot := slotAfterCheck (portCheck p frame), overrun := true }

/-- The response written and the slot DONE (R162). -/
def State.answer (s : State) (p : Port) (code : Byte) (a : Answer) : State :=
  s.setPort p { s.port p with slot := .done code a.result a.body }

/-- A controller command taken by the block that owns it (R162). Where the port's slot holds that command, this is its completion:
the owner's one event, with the response written and the slot DONE. Where it does not, the command's frame first arrives at
the slot (R160), so that a command on its own stands for its arrival and its completion in turn, and a WORKING slot that holds
another command discards it (log entry 4). A part in device reset takes nothing in (R158). -/
def State.runCommand (s : State) (f : CommandFrame) (owner : State → State × Answer) : State :=
  if s.inReset then s
  else
    let s1 := if (s.port f.port).slot = .working f.code f.params then s
      else s.arrive f.port f.bytes (frameBits f.bytes).length
    if (s1.port f.port).slot = .working f.code f.params then
      let out := owner s1
      out.1.answer f.port f.code out.2
    else s1

end Sys2Proof.Machine
end

