-- ==== Sys2Proof/Machine/Compose.lean ====
section
/-! DEFINITION. Coefficient composition (06_coefficient_composition.md): the compose operator, the program contribution, the base
feed of a return and the target of every cell. -/

namespace Sys2Proof.Machine

/-- A sum or product capped at the largest coefficient (R101, R105). -/
def capCoeff (n : Nat) : Coeff := BitVec.ofNat 16 (min Config.maxCoeff n)

/-- The compose operator: multiply, add 8192, divide by 16384, floor, cap (R101). -/
def compose (x y : Coeff) : Coeff := capCoeff ((x.toNat * y.toNat + 8192) / 16384)

/-- Whether a kind has a stage (R3, R9). -/
def Kind.hasStage : Kind → Bool
  | .caller | .codec => true
  | .unused | .studio | .playout | .talkback | .air => false

/-- Whether a kind has an on state (R3, R8). -/
def Kind.hasOn : Kind → Bool
  | .studio | .playout => true
  | .unused | .caller | .codec | .talkback | .air => false

/-- Whether a kind has a fader (R3, R7). -/
def Kind.hasFader (k : Kind) : Bool := k.hasStage || k.hasOn

/-- Whether a kind may stand in an extra minus list or a conference (R3, R29, R46). -/
def Kind.mayJoin : Kind → Bool
  | .caller | .codec | .studio => true
  | .unused | .playout | .talkback | .air => false

/-- P(s), the program contribution of a source (R6). -/
def Source.contribution (x : Source) : Coeff :=
  if (x.kind.hasStage ∧ x.stage = .air) ∨ (x.kind.hasOn ∧ x.on) then x.fader else 0

/-- A return whose attached source is VACANT (R36, R103). -/
def State.silentListener (s : State) (r : ReturnId) : Bool :=
  match s.returns[r].attached with
  | none => false
  | some a => decide (s.sources[a].stage = .vacant)

/-- The base feed before air demotion (R37). A VACANT source has none: R36 applies first. -/
def State.baseBeforeDemotion (s : State) (r : ReturnId) : Feed :=
  match s.returns[r].attached with
  | none => s.returns[r].defaultFeed
  | some a => match s.sources[a].stage with
    | .vacant => .silent
    | .screen => .silent
    | .hold => .air
    | .ready => .program
    | .air => .program

/-- Whether an AIR base of the return is demoted: no air feed, or a source of the minus set in AIR or under a running guard (R38). -/
def State.demotes (s : State) (r : ReturnId) : Bool :=
  s.airFeed.isNone || (List.finRange 32).any fun i =>
    s.inMinusSet r i && (decide (s.sources[i].stage = .air) || s.sources[i].guard.isSome)

/-- The base feed of a return that is not a silent listener (R37, R38). -/
def State.baseFeed (s : State) (r : ReturnId) : Feed :=
  match s.baseBeforeDemotion r with
  | .air => if s.demotes r then .program else .air
  | f => f

/-- The base coefficient b(i) (R104). -/
def State.baseCoeff (s : State) (r : ReturnId) (i : SourceId) : Coeff :=
  match s.baseFeed r with
  | .program => if s.inMinusSet r i then 0 else s.sources[i].contribution
  | .air => if s.airFeed = some i then Config.unity else 0
  | .silent => 0

/-- The conference coefficient c(i) (R105): where the attached source is in a conference, the bed, plus G for another member outside
the minus set, capped. -/
def State.conferenceCoeff (s : State) (r : ReturnId) (i : SourceId) : Coeff :=
  match s.returns[r].attached with
  | none => s.baseCoeff r i
  | some a => match s.sources[a].conference with
    | none => s.baseCoeff r i
    | some k =>
      let c := s.conferences[k]
      let bed := (compose (s.baseCoeff r i) c.bed).toNat
      if c.members.contains i ∧ i ≠ a ∧ ¬ s.inMinusSet r i then capCoeff (bed + c.gain.toNat) else capCoeff bed

/-- The level coefficient q(i) (R106). -/
def State.levelCoeff (s : State) (r : ReturnId) (i : SourceId) : Coeff :=
  compose (s.conferenceCoeff r i) s.returns[r].level

/-- The target of cell (return r, i): the silent listener test and the talkback step (R103, R107). -/
def State.returnTarget (s : State) (r : ReturnId) (i : SourceId) : Coeff :=
  if s.silentListener r then 0
  else match s.arbiter[r].active with
    | none => s.levelCoeff r i
    | some a =>
      if i = a.request.originator then s.sources[i].talkLevel
      else match a.request.mode with
        | .cut => 0
        | .dip => compose (s.levelCoeff r i) s.returns[r].dipLevel

/-- The target of a cell by the tables as they stand (R102, R103 to R107). -/
def State.targetOf (s : State) (ρ : Row) (i : SourceId) : Coeff :=
  match ρ with
  | .program => s.sources[i].contribution
  | .ret r => s.returnTarget r i

/-- The 32 targets of a row by the tables as they stand (R112, R113). -/
def State.rowTargets (s : State) (ρ : Row) : Vector Coeff 32 := Vector.ofFn fun i => s.targetOf ρ i

/-- Whether a row stands in the recompose queue (R109). -/
def State.queued (s : State) (ρ : Row) : Bool := s.queue.any fun e => e.row == ρ

/-- Whether a row is in flight (R109). -/
def State.flying (s : State) (ρ : Row) : Bool := s.inFlight.any fun f => f.row == ρ

/-- The state of a row as READ RETURN and READ CELL report it: 0 SETTLED, 1 QUEUED, 2 IN FLIGHT; a row in flight and queued again is
QUEUED (R115, R169). -/
def State.rowStateByte (s : State) (ρ : Row) : Byte := if s.queued ρ then 1 else if s.flying ρ then 2 else 0

end Sys2Proof.Machine
end

