-- ==== Sys2Proof/Machine/Perform.lean ====
section
/-! DEFINITION. How a step answers: a controller command through its port's slot (R162), and an event of the part itself, which a part
in device reset does not take (R142, R158). No step of the DV2432 stops the part. -/

namespace Sys2Proof.Machine

/-- The outcome of every step of the part. -/
abbrev Result := Host.Outcome State Fault Refusal

/-- A controller command performed by its owning block (R162). -/
def State.perform (s : State) (i : Instr) (owner : State → State × Answer) : Result :=
  match commandFrame i with
  | none => .next s
  | some f => .next (s.runCommand f owner)

/-- An event of the part where its condition holds; where it does not, or in device reset, the event does not come about and nothing
changes (log entry 3). -/
def State.whenever (s : State) (condition : Bool) (event : State) : Result :=
  if s.inReset then .next s else if condition then .next event else .next s

end Sys2Proof.Machine
end

