-- ==== Sys2Proof/Machine/Composer.lean ====
section
/-! DEFINITION. The Coefficient Composer's two events (6.6): the take of a row and the completion of its recomposition. -/

namespace Sys2Proof.Machine

/-- The take of the head entry: its row in flight with its flag, the tables read as they stand (R112). Nothing where the composer is
busy or the queue is empty. -/
def State.takeRow (s : State) : State :=
  match s.inFlight, s.queue with
  | none, e :: rest => { s with queue := rest, inFlight := some { row := e.row, talk := e.talk, targets := s.rowTargets e.row } }
  | _, _ => s

/-- RECOMPOSE_TAKE (R112). -/
def execRecomposeTake (s : State) : Result := s.whenever (s.inFlight.isNone && !s.queue.isEmpty) s.takeRow

/-- A cell after a completion: a new target takes the step, an equal one keeps the cell (R113). -/
def Cell.retarget (c : Cell) (target : Coeff) (step : Nat) : Cell :=
  if c.target = target then c else { c with target := target, step := step }

/-- The completion of the row in flight: its 32 targets written, with the talk step or the program step as they stand (R113). -/
def State.complete (s : State) (f : InFlight) : State :=
  let step := if f.talk then s.talkStep else s.programStep
  let cs := s.row f.row
  { s.setRow f.row (Vector.ofFn fun i => cs[i].retarget f.targets[i] step) with inFlight := none }

/-- The completion, where a row is in flight (R113). -/
def State.completeRow (s : State) : State :=
  match s.inFlight with
  | none => s
  | some f => s.complete f

/-- RECOMPOSE_COMPLETION (R113). -/
def execRecomposeCompletion (s : State) : Result := s.whenever s.inFlight.isSome s.completeRow

end Sys2Proof.Machine
end

