-- ==== Sys2Proof/Machine/Operands.lean ====
section
/-! DEFINITION. Operand forms: how the owning blocks read the bytes of a command's parameters and write the bytes of a response's
body (R169), what they refuse (R166) and what they clamp (10.4, Refused and clamped values). -/

namespace Sys2Proof.Machine

/-! ## Reading arguments: none is an argument out of range -/

/-- A source, return, conference or key by its number (R169). -/
def indexArg (n : Nat) (b : Byte) : Option (Fin n) := if h : b.toNat < n then some ⟨b.toNat, h⟩ else none

/-- The byte that means none, or all returns (R169). -/
def noneByte : Byte := 0xFF

/-- An index or none (R169). -/
def optionArg (n : Nat) (b : Byte) : Option (Option (Fin n)) :=
  if b = noneByte then some none else (indexArg n b).map some

/-- A source kind (R169). -/
def kindArg (b : Byte) : Option Kind :=
  match b.toNat with
  | 0 => some .unused
  | 1 => some .caller
  | 2 => some .codec
  | 3 => some .studio
  | 4 => some .playout
  | 5 => some .talkback
  | 6 => some .air
  | _ => none

/-- An on state (R169). -/
def onArg (b : Byte) : Option Bool :=
  match b.toNat with
  | 0 => some false
  | 1 => some true
  | _ => none

/-- A default feed (R169). -/
def feedArg (b : Byte) : Option Feed :=
  match b.toNat with
  | 0 => some .program
  | 1 => some .air
  | 2 => some .silent
  | _ => none

/-- A tag by its number, 1 to 15 (R82, R84). -/
def tagNumber (n : Nat) : Option TagId := if h : 1 ≤ n ∧ n ≤ 15 then some ⟨n - 1, by omega⟩ else none

/-- A tag position: absent or a tag (R169, R82). -/
def tagPositionArg (b : Byte) : Option (Option TagId) := if b = 0 then some none else (tagNumber b.toNat).map some

/-- A target byte: below 0x80 a return, from 0x80 a tag (R169). -/
def targetArg (b : Byte) : Option Target :=
  if b.toNat < 0x80 then (indexArg 24 b).map .ret else (tagNumber (b.toNat - 0x80)).map .tag

/-- A talkback mode (R169). -/
def modeArg (b : Byte) : Option Mode :=
  match b.toNat with
  | 0 => some .cut
  | 1 => some .dip
  | _ => none

/-- A hold code; above 7 it is stored as 7 (R58, R84, R96). -/
def holdCodeArg (b : Byte) : Fin 8 := if h : b.toNat < 8 then ⟨b.toNat, h⟩ else 7

/-- A deaf mode (R169). -/
def deafArg (b : Byte) : Option DeafMode :=
  match b.toNat with
  | 0 => some .normal
  | 1 => some .deaf
  | 2 => some .refuse
  | _ => none

/-- A press level (R169). -/
def levelArg (b : Byte) : Option Level :=
  match b.toNat with
  | 0 => some .low
  | 1 => some .high
  | _ => none

/-- A key mode (R169). -/
def keyModeArg (b : Byte) : Option KeyMode :=
  match b.toNat with
  | 0 => some .momentary
  | 1 => some .latch
  | _ => none

/-- A row: 0 to 23 a return row, 24 the program row (R169, R117). -/
def rowArg (b : Byte) : Option Row := if b = 24 then some .program else (indexArg 24 b).map .ret

/-! ## Clamped settings -/

/-- A value held within `lo` to `hi` (10.4). -/
def clamp (lo hi n : Nat) : Nat := max lo (min hi n)

/-! ## Writing fields -/

/-- A kind's byte (R169). -/
def Kind.byte : Kind → Byte
  | .unused => 0
  | .caller => 1
  | .codec => 2
  | .studio => 3
  | .playout => 4
  | .talkback => 5
  | .air => 6

/-- A stage's byte (R169). -/
def Stage.byte : Stage → Byte
  | .vacant => 0
  | .screen => 1
  | .hold => 2
  | .ready => 3
  | .air => 4

/-- A feed's byte (R169). -/
def Feed.byte : Feed → Byte
  | .program => 0
  | .air => 1
  | .silent => 2

/-- READ RETURN's base feed: 3 for NONE (R169). -/
def baseByte : Option Feed → Byte
  | some f => f.byte
  | none => 3

/-- A tag's number, 1 to 15. -/
def tagByte (t : TagId) : Byte := byteOf (t.val + 1)

/-- A tag position's byte: 0 for absent (R169). -/
def tagPositionByte : Option TagId → Byte
  | none => 0
  | some t => tagByte t

/-- A target's byte (R169). -/
def Target.byte : Target → Byte
  | .ret r => byteOf r.val
  | .tag t => byteOf (0x80 + (t.val + 1))

/-- An addressed-via byte (R169). -/
def Via.byte : Via → Byte
  | .direct => 0
  | .tag t => tagByte t

/-- A mode's byte (R169). -/
def Mode.byte : Mode → Byte
  | .cut => 0
  | .dip => 1

/-- An origin's byte (R169). -/
def Origin.byte : Origin → Byte
  | .key n => byteOf n.val
  | .port => 0x80

/-- A deaf mode's byte (R169). -/
def DeafMode.byte : DeafMode → Byte
  | .normal => 0
  | .deaf => 1
  | .refuse => 2

/-- A line level's byte (R169). -/
def levelByte : Level → Byte
  | .low => 0
  | .high => 1

/-- A key mode's byte (R169). -/
def KeyMode.byte : KeyMode → Byte
  | .momentary => 0
  | .latch => 1

/-- A sync state's byte (R169). -/
def SyncState.byte : SyncState → Byte
  | .seeking => 0
  | .locked => 1
  | .lost => 2

/-- A row's byte: 0 to 23 a return row, 24 the program row (R169). -/
def rowByte : Row → Byte
  | .ret r => byteOf r.val
  | .program => 24

/-- A request record in READ RETURN: 7 bytes (R170). -/
def Request.bytes (q : Request) : List Byte :=
  [byteOf q.originator.val, q.target.byte, q.via.byte, q.mode.byte, byteOf q.priority.val, byteOf q.holdCode.val, q.origin.byte]

/-! ## List commands -/

/-- A list command's checks, entry by entry from position 0 (R7, R8, R29, R32): the first entry that fails stops them, and its
position and result code are the answer. `check` sees the position, the earlier entries and the entry. -/
def checkEntries {α : Type} (check : Nat → List α → α → Option ResultCode) : Nat → List α → List α → Option (Nat × ResultCode)
  | _, _, [] => none
  | pos, seen, e :: es =>
    match check pos seen e with
    | some r => some (pos, r)
    | none => checkEntries check (pos + 1) (seen ++ [e]) es

end Sys2Proof.Machine
end

