-- ==== Sys2Proof/Machine/Conferences.lean ====
section
/-! DEFINITION. Conferences (03_conferences.md): removal of a member, JOIN, LEAVE and SET CONFERENCE. -/

namespace Sys2Proof.Machine

/-- A source out of a conference's member list, the members after it moving up (R43, R48, R49, R51). -/
def State.unlist (s : State) (k : ConferenceId) (i : SourceId) : State :=
  s.setConference k { s.conferences[k] with members := s.conferences[k].members.filter fun m => m != i }

/-- A source's copy of its membership written (R43). -/
def State.setMembership (s : State) (i : SourceId) (k : Option ConferenceId) : State :=
  s.setSource i { s.sources[i] with conference := k }

/-- A source removed from its conference, with CONFERENCE EXIT, where it is a member of one (R13 step 3, R15 step 3, R51, R52). -/
def State.exitConference (s : State) (i : SourceId) : State :=
  match s.sources[i].conference with
  | none => s
  | some k => ((s.unlist k i).setMembership i none).raise .conferenceExit i.val

/-- A source appended to a conference, out of its prior one if any (R47, R48). -/
def State.enterConference (s : State) (i : SourceId) (k : ConferenceId) : State :=
  let t := match s.sources[i].conference with
    | none => s
    | some prior => s.unlist prior i
  (t.setConference k { t.conferences[k] with members := t.conferences[k].members ++ [i] }).setMembership i (some k)

/-- The rows of the returns attached to the members of a source's conference, none where it has none (R45). -/
def State.ownConferenceRow (s : State) (i : SourceId) (ρ : Row) : Bool :=
  match s.sources[i].conference with
  | none => false
  | some k => s.memberRow k ρ

/-- JOIN at the Conference Table (R46 to R48). -/
def ownerJoin (source conference : Byte) (t : State) : State × Answer :=
  match indexArg 32 source, indexArg 4 conference with
  | some i, some k =>
    let x := t.sources[i]
    if ¬ x.kind.mayJoin then (t, refuse .invalid)
    else if x.kind.hasStage ∧ (x.stage = .vacant ∨ x.stage = .air) then (t, refuse .state)
    else if t.conferences[k].members.contains i then (t, ok [byteOf k.val])
    else if Config.maxMembers ≤ t.conferences[k].members.length then (t, refuse .full)
    else
      let u := t.enterConference i k
      (u.markRows fun ρ => t.ownConferenceRow i ρ || u.memberRow k ρ, ok [indexByte x.conference])
  | _, _ => (t, refuse .invalid)

/-- JOIN (R46). -/
def execJoin (source conference : Byte) (s : State) : Result := s.perform (.join source conference) (ownerJoin source conference)

/-- LEAVE at the Conference Table (R49). -/
def ownerLeave (source : Byte) (t : State) : State × Answer :=
  match indexArg 32 source with
  | none => (t, refuse .invalid)
  | some i => match t.sources[i].conference with
    | none => (t, refuse .notFound)
    | some k => (((t.unlist k i).setMembership i none).markRows (t.memberRow k), ok [byteOf k.val])

/-- LEAVE (R49). -/
def execLeave (source : Byte) (s : State) : Result := s.perform (.leave source) (ownerLeave source)

/-- SET CONFERENCE at the Conference Table (R50). -/
def ownerSetConference (conference : Byte) (g b : Coeff) (t : State) : State × Answer :=
  match indexArg 4 conference with
  | none => (t, refuse .invalid)
  | some k => ((t.setConference k { t.conferences[k] with gain := g, bed := b }).markRows (t.memberRow k), ok [])

/-- SET_CONFERENCE (R50). -/
def execSetConference (conference : Byte) (g b : Coeff) (s : State) : Result :=
  s.perform (.setConference conference g b) (ownerSetConference conference g b)

end Sys2Proof.Machine
end

