-- ==== Sys2Proof/Machine/Mix.lean ====
section
/-! DEFINITION. Mixing arithmetic (07_mixing_arithmetic_and_outputs.md): the ramp of a cell, the sum of a row, its rounding and its
limits, and the output slots. The arithmetic is on exact integers, narrowed once at the end. -/

namespace Sys2Proof.Machine

/-- A current value one frame on: the target where the distance is within the step, else one step toward it (R120). -/
def rampValue (current target : Coeff) (step : Nat) : Coeff :=
  let v := current.toNat
  let w := target.toNat
  if (w - v) + (v - w) ≤ step then target
  else if v < w then BitVec.ofNat 16 (v + step) else BitVec.ofNat 16 (v - step)

/-- A cell after one frame arrival's ramp (R120). -/
def Cell.ramp (c : Cell) : Cell := { c with current := rampValue c.current c.target c.step }

/-- Every cell of every row ramped (R119 step 2). -/
def State.rampAll (s : State) : State :=
  { s with cells := Vector.ofFn fun j : Fin 25 => Vector.ofFn fun i : Fin 32 => s.cells[j][i].ramp }

/-- The sample of an input slot: its first 24 bit periods (R132, R173). -/
def slotSample (w : SlotWord) : Sample := w.extractLsb' 8 24

/-- The input samples of a frame: source 8n + m from input lane n, slot m (R1, R119 step 1). -/
def frameSamples (slots : Vector SlotWord 32) : Vector Sample 32 := Vector.ofFn fun i => slotSample slots[i]

/-- An output slot of a lane: the sample, then eight zero bit periods (R132, R173). -/
def outputSlot (x : Sample) : SlotWord := BitVec.append x (0#8)

/-- The bit that bit period n of a frame carries on a lane, n counted from 0: bit period n mod 32 of slot n / 32, most significant bit
first (R132, R173). After bit period 255 no slot is left. -/
def laneBit (slots : Vector SlotWord 32) (lane : Fin 4) (n : Nat) : Bool :=
  if h : n < 256 then (slots[8 * lane.val + n / 32]'(by omega)).getLsbD (31 - n % 32) else false

/-- The accumulator of a row: the sum over the 32 sources of input sample times current value, exact (R122). -/
def accumulator (cs : Vector Cell 32) (x : Vector Sample 32) : Int :=
  ((List.finRange 32).map fun i => x[i].toInt * (cs[i].current.toNat : Int)).sum

/-- The one rounding of an output sample: add 8192, divide by 16384, floor (R123). Int division by a positive number is the floor. -/
def roundSum (acc : Int) : Int := (acc + 8192) / 16384

/-- Saturation to 24 bits (R124 stage 1). -/
def saturate (y : Int) : Int := max (-8388608) (min 8388607 y)

/-- The ceiling clamp of a return (R124 stage 2). -/
def clampCeiling (c : Nat) (y : Int) : Int := if (c : Int) < y then c else if y < -(c : Int) then -(c : Int) else y

/-- A return's sample before and after its limits (R124). -/
def returnSample (c : Nat) (y : Int) : Int := clampCeiling c (saturate y)

/-- Whether a return's sample is clipped: a stage changed it (R125). The two stages never undo one another. -/
def clippedSample (c : Nat) (y : Int) : Bool := decide (returnSample c y ≠ y)

/-- The rounded sum of a row (R122, R123). -/
def State.rowSum (s : State) (x : Vector Sample 32) (ρ : Row) : Int := roundSum (accumulator (s.row ρ) x)

/-- The sample a return emits, from the cells as they stand (R122 to R124). -/
def State.returnOut (s : State) (x : Vector Sample 32) (r : ReturnId) : Sample :=
  BitVec.ofInt 24 (returnSample s.returns[r].ceiling (s.rowSum x (.ret r)))

/-- The sample of the program row: saturated, no ceiling (R124). -/
def State.programOut (s : State) (x : Vector Sample 32) : Sample := BitVec.ofInt 24 (saturate (s.rowSum x .program))

/-- Whether a return's sample of this frame is clipped (R125). -/
def State.clipped (s : State) (x : Vector Sample 32) (r : ReturnId) : Bool :=
  clippedSample s.returns[r].ceiling (s.rowSum x (.ret r))

/-- The held output samples of a frame: lanes 0 to 2 the returns, lane 3 the program row, the monitor copy and zeros (R126, R127). -/
def State.outputs (s : State) (x : Vector Sample 32) : Vector Sample 32 :=
  Vector.ofFn fun j : Fin 32 =>
    if h : j.val < 24 then s.returnOut x ⟨j.val, h⟩
    else if j.val = 24 then s.programOut x
    else if j.val = 25 then match s.monitor with
      | none => 0
      | some r => s.returnOut x r
    else 0

end Sys2Proof.Machine
end

