-- ==== Sys2Proof/Machine/Frames.lean ====
section
/-! DEFINITION. Frames: the frame sync edges, the frame arrival with everything it drives, and the loss of sync
(07_mixing_arithmetic_and_outputs.md, 08_audio_lanes_and_frame_sync.md, 09_level_monitor.md). -/

namespace Sys2Proof.Machine

/-! ## Silence detection (9.3) -/

/-- The silence limit, in frames (R143). -/
def State.silenceLimit (s : State) : Nat := s.silenceTime * Config.framesPerSecond

/-- Whether a sample is loud (R145). -/
def loud (threshold : Nat) (x : Sample) : Bool := decide (threshold ≤ x.toInt.natAbs)

/-- The silence counter after a quiet sample: up by one, never above the limit (R146). -/
def quietCount (limit count : Nat) : Nat := if count < limit then count + 1 else limit

/-- A source's silence state after one sample (R146, R147). -/
def Source.hear (limit : Nat) (isLoud : Bool) (x : Source) : Source :=
  if isLoud then { x with silenceCount := 0, silent := false }
  else { x with silenceCount := quietCount limit x.silenceCount, silent := x.silent || quietCount limit x.silenceCount == limit }

/-- Whether a change of silence status is reported: the stage is HOLD, READY or AIR (R148). -/
def Stage.reportsSilence : Stage → Bool
  | .hold | .ready | .air => true
  | .vacant | .screen => false

/-- The Level Monitor's step 1 for one source (R144 to R148): sources of other kinds are not counted. -/
def State.hearSource (s : State) (x : Vector Sample 32) (i : SourceId) : State :=
  let old := s.sources[i]
  if old.kind.hasStage then
    let new := old.hear s.silenceLimit (loud s.silenceThreshold x[i])
    let t := s.setSource i new
    if new.silent ≠ old.silent ∧ old.stage.reportsSilence then t.raise .silenceChange i.val else t
  else s

/-- The Level Monitor's step 1 (R144). -/
def State.hearAll (s : State) (x : Vector Sample 32) : State := (List.finRange 32).foldl (fun t i => t.hearSource x i) s

/-! ## Clip counting and the watch interval (9.4, 9.5) -/

/-- A return's clip record rewritten. -/
def State.setClip (s : State) (r : ReturnId) (c : Clip) : State := { s with clips := s.clips.set r c }

/-- A clipped sample counted on a return, and the clip threshold tested (R150, R151). -/
def State.countClip (s : State) (r : ReturnId) : State :=
  let c := s.clips[r]
  let n := if c.count < Config.maxClips then c.count + 1 else c.count
  if s.clipThreshold < n ∧ ¬ c.overThreshold then
    (s.setClip r { c with count := n, overThreshold := true }).raise .clipThreshold r.val
  else s.setClip r { c with count := n }

/-- The Level Monitor's step 2 (R144): the clipped returns counted. -/
def State.countClips (s : State) (flags : Vector Bool 24) : State :=
  (List.finRange 24).foldl (fun t r => if flags[r] then t.countClip r else t) s

/-- The watch interval of a watch code, in frames (R152). -/
def watchInterval (code : Nat) : Nat := Config.watchBase * 2 ^ code

/-- One return captured at the expiry of the interval (R153). -/
def Clip.capture (c : Clip) : Clip := { count := 0, captured := c.count, overThreshold := false }

/-- CLIP REPORT for one return at the expiry: its captured count goes from 0 to a count that is not 0, in an interval that saw no loss
(R153 step 5, R154). -/
def State.reportsClip (s : State) (r : ReturnId) : Bool :=
  s.clips[r].captured == 0 && s.clips[r].count != 0 && !s.lossMark

/-- The expiry of the watch interval (R152 to R154): CLIP REPORT where it is due, every count captured, the interval restarted, the loss
mark cleared. -/
def State.closeInterval (s : State) : State :=
  let t := (List.finRange 24).foldl (fun t r => if s.reportsClip r then t.raise .clipReport r.val else t) s
  { t with
    clips := Vector.ofFn fun r => s.clips[r].capture
    watchRemaining := watchInterval s.watchCode
    lossMark := false }

/-- The Level Monitor's step 3 (R144, R152): one frame of the interval counted, its expiry at zero. -/
def State.watchTick (s : State) : State :=
  if s.watchRemaining ≤ 1 then s.closeInterval else { s with watchRemaining := s.watchRemaining - 1 }

/-! ## The frame arrival -/

/-- Every running guard counted down; a count that comes to 0 is an expiry that is due (R20, R22). -/
def State.tickGuards (s : State) : State :=
  { s with sources := Vector.ofFn fun i => { s.sources[i] with guard := s.sources[i].guard.map (· - 1) } }

/-- An arbitration record with its hold timer counted down (R70). -/
def Arbitration.tick (a : Arbitration) : Arbitration :=
  { a with active := a.active.map fun x => { x with remaining := x.remaining - 1 } }

/-- Every running hold timer counted down; a count that comes to 0 is an expiry that is due (R70, R71). -/
def State.tickHolds (s : State) : State := { s with arbiter := Vector.ofFn fun r => s.arbiter[r].tick }

/-- The Frame Sync Monitor at a frame arrival (R137, R138): LOCKED with the gap timer at the full time, SYNC CHANGE where it was not
LOCKED. -/
def State.lockSync (s : State) : State :=
  let t := { s with sync := .locked, gap := some Config.gapMicros }
  match s.sync with
  | .locked => t
  | .seeking => t.raiseSyncChange
  | .lost => t.raiseSyncChange

/-- The Mix Engine at a frame arrival: the ramp, then the sums, limits and outputs from the ramped cells (R119 steps 2 to 5). -/
def State.mix (s : State) (x : Vector Sample 32) : State :=
  let t := s.rampAll
  { t with held := t.outputs x }

/-- The clipped indications of a frame, from the ramped cells (R119 step 6, R125). -/
def State.clipFlags (s : State) (x : Vector Sample 32) : Vector Bool 24 := Vector.ofFn fun r => s.rampAll.clipped x r

/-- The lanes at the end of a frame: the assembly waits again, and the output frame that began with it is over (R133, R135). -/
def State.endFrame (s : State) : State := { s with assembly := .waiting, outFrame := none }

/-- A frame arrival, in the one event: lanes, Mix Engine, guards, hold timers, Level Monitor and Frame Sync Monitor (R119, R134,
R144). -/
def State.takeFrame (s : State) (slots : Vector SlotWord 32) : State :=
  let x := frameSamples slots
  let mixed := (s.endFrame.mix x).tickGuards.tickHolds
  ((mixed.hearAll x).countClips (s.clipFlags x)).watchTick.lockSync

/-- Whether a frame is being collected (R133). -/
def Assembly.collects : Assembly → Bool
  | .waiting => false
  | .collecting _ => true

/-- FRAME_ARRIVAL (R119, R133, R134): the completion of the frame that is being collected; with no frame sync edge before it nothing is
taken in. It stands for the bit periods that the frame still lacks (log entry 5). -/
def execFrameArrival (slots : Vector SlotWord 32) (s : State) : Result := s.whenever s.assembly.collects (s.takeFrame slots)

/-- Whether a frame arrival with these slots brings a source from clear to SILENT (R146). -/
def State.fallsSilent (s : State) (i : SourceId) (slots : Vector SlotWord 32) : Bool :=
  !s.sources[i].silent && (s.takeFrame slots).sources[i].silent

/-- SILENCE_LIMIT_REACHED (R146): the frame arrival at which the source's counter reaches the silence limit. The status changes in the
event of the arrival, so this step is that arrival (log entry 7). -/
def execSilenceLimitReached (i : SourceId) (slots : Vector SlotWord 32) (s : State) : Result :=
  s.whenever (s.assembly.collects && s.fallsSilent i slots) (s.takeFrame slots)

/-- WATCH_INTERVAL_EXPIRY (R153): the frame arrival that brings the watch interval's count to zero. The capture is made in the event
of the arrival, so this step is that arrival (log entry 7). -/
def execWatchIntervalExpiry (slots : Vector SlotWord 32) (s : State) : Result :=
  s.whenever (s.assembly.collects && decide (s.watchRemaining ≤ 1)) (s.takeFrame slots)

/-! ## Frame sync edges, bit periods and loss -/

/-- A frame sync rising edge: a frame starts from bit period one of slot 0, and an output frame starts with it, the held samples each in
its slot in the format of R173; bits of a frame that was being collected, or of an output frame not yet sent, are discarded (R128, R133,
R135). -/
def State.startFrame (s : State) : State := { s with assembly := .collecting 0, outFrame := some (s.held.map outputSlot) }

/-- The assembly after one more bit period: counted while collecting, not taken in while waiting (R133). The 256th bit period completes
the frame and is the frame arrival itself, so it is not counted here. -/
def Assembly.count : Assembly → Assembly
  | .waiting => .waiting
  | .collecting n => if n < 255 then .collecting (n + 1) else .collecting n

/-- A bit period of the bit clock (R133); in device reset nothing is taken in (R142). -/
def State.bitPeriod (s : State) : State := if s.inReset then s else { s with assembly := s.assembly.count }

/-- The level an output data pin drives: the bit of its lane in the bit period under way of an output frame; a zero between frames, and
while the bit clock is stopped (R135, R142). The output frame and the frame being collected share their bit periods. -/
def State.dataPin (s : State) (clockRuns : Bool) (lane : Fin 4) : Bool :=
  match clockRuns && !s.inReset, s.assembly, s.outFrame with
  | true, .collecting n, some slots => laneBit slots lane n
  | _, _, _ => false

/-- FRAME_SYNC_RISING_EDGE (R133, R135). -/
def execFrameSyncRisingEdge (s : State) : Result := s.whenever true s.startFrame

/-- SHORT_FRAME (R133, R135): the edge comes while a frame is being collected. -/
def execShortFrame (s : State) : Result := s.whenever s.assembly.collects s.startFrame

/-- Every current value and every held sample set to 0, targets and steps kept (R129). -/
def State.silenceOutputs (s : State) : State :=
  { s with
    held := Vector.replicate 32 0
    cells := Vector.ofFn fun j : Fin 25 => Vector.ofFn fun i : Fin 32 => { s.cells[j][i] with current := 0 } }

/-- The loss of frame sync (R139): LOST, the gap timer stopped, SYNC CHANGE at the three ports, the outputs at 0, the loss mark set. -/
def State.loseSync (s : State) : State :=
  { s.silenceOutputs.raiseSyncChange with sync := .lost, gap := none, lossMark := true }

/-- SYNC_LOSS (R139): comes about in LOCKED, where the gap timer runs. -/
def execSyncLoss (s : State) : Result := s.whenever (decide (s.sync = .locked)) s.loseSync

end Sys2Proof.Machine
end

