-- ==== Sys2Proof/Machine/Reads.lean ====
section
/-! DEFINITION. The read commands (R41, R55, R98, R117, R157, R167, R168, R170): each reports and changes nothing. -/

namespace Sys2Proof.Machine

/-- The READ SOURCE body: 17 bytes (R170). -/
def sourceBody (s : State) (i : SourceId) : List Byte :=
  let x := s.sources[i]
  [byteOf i.val, x.kind.byte, x.stage.byte] ++ be16 x.fader ++ [flagByte x.on] ++ be16 x.talkLevel ++ [flagByte x.guard.isSome]
    ++ count24 (x.guard.getD 0) ++ [indexByte x.conference, flagByte x.silent] ++ count24 x.silenceCount

/-- The active flag of a READ RETURN body, then, if set, the active request with its remaining hold frames (R42, R170). -/
def activeBytes : Option Active → List Byte
  | none => [0]
  | some a => 1 :: (a.request.bytes ++ count24 a.remaining)

/-- The READ RETURN body (R41, R42, R170). The refusal count is two bytes and the list count one (log entry 11). -/
def returnBody (s : State) (r : ReturnId) : List Byte :=
  let x := s.returns[r]
  let a := s.arbiter[r]
  let gone := s.silentListener r
  let base := if gone then none else some (s.baseFeed r)
  let demoted := !gone && decide (s.baseBeforeDemotion r = .air) && s.demotes r
  [byteOf r.val, indexByte x.attached, x.defaultFeed.byte] ++ be16 x.level ++ count24 x.ceiling
    ++ x.tags.toList.map tagPositionByte ++ [x.deaf.byte] ++ be16 x.dipLevel ++ count16 x.refusals
    ++ [baseByte base, flagByte demoted, s.rowStateByte (.ret r), byteOf x.minusList.length]
    ++ x.minusList.map (fun i => byteOf i.val) ++ activeBytes a.active ++ byteOf a.waiting.length :: a.waiting.flatMap Request.bytes

/-- The return attached to a source, or none (R55). At most one is (R25); the lowest is reported. -/
def State.returnOf (s : State) (i : SourceId) : Option ReturnId :=
  (List.finRange 24).find? fun r => decide (s.returns[r].attached = some i)

/-- The READ CONFERENCE body (R55, R170). The member count is two bytes, as a count (R169; log entry 11). -/
def conferenceBody (s : State) (k : ConferenceId) : List Byte :=
  let c := s.conferences[k]
  byteOf k.val :: (be16 c.gain ++ be16 c.bed ++ count16 c.members.length
    ++ c.members.flatMap fun i => [byteOf i.val, indexByte (s.returnOf i)])

/-- The READ STATUS body: 13 bytes (R167, R170). -/
def statusBody (s : State) (p : Port) : List Byte :=
  [s.sync.byte, byteOf s.queue.length, (match s.inFlight with | none => 0xFF | some f => rowByte f.row), flagByte (s.port p).overrun]
    ++ count16 s.programStep ++ count16 s.talkStep ++ [indexByte s.airFeed] ++ count16 s.airDelay
    ++ [byteOf s.debounceTime, indexByte s.monitor]

/-- A binding's five bytes, 0xFF in each when unbound (R170, R171). -/
def bindingBytes : Option Binding → List Byte
  | none => [0xFF, 0xFF, 0xFF, 0xFF, 0xFF]
  | some b => [byteOf b.originator.val, b.target.byte, b.mode.byte, byteOf b.priority.val, byteOf b.holdCode.val]

/-- The three counts of a group TALK (R87, R170). -/
def TalkCounts.bytes (c : TalkCounts) : List Byte := count16 c.active ++ count16 c.queued ++ count16 c.refused

/-- No counts. -/
def TalkCounts.zero : TalkCounts := { active := 0, queued := 0, refused := 0 }

/-- The outcome kind, detail and counts of READ KEY (R170). -/
def KeyOutcome.bytes : KeyOutcome → List Byte
  | .none => 0 :: 0 :: TalkCounts.zero.bytes
  | .active => 1 :: 0 :: TalkCounts.zero.bytes
  | .queued n => 2 :: byteOf n :: TalkCounts.zero.bytes
  | .refused r c => 3 :: r.byte :: c.bytes
  | .released n => 4 :: byteOf n :: TalkCounts.zero.bytes
  | .notFound => 5 :: 0 :: TalkCounts.zero.bytes
  | .talked c => 6 :: 0 :: c.bytes

/-- Whether a debounce wait runs (R98). -/
def Debounce.running : Debounce → Bool
  | .idle => false
  | .waiting _ => true

/-- Whether a key is pressed (R89). -/
def Key.pressed (k : Key) : Bool := decide (k.accepted = k.pressLevel)

/-- The READ KEY body: 21 bytes (R98, R170). -/
def keyBody (s : State) (n : KeyId) : List Byte :=
  let k := s.keys[n]
  [byteOf n.val, flagByte k.binding.isSome] ++ bindingBytes k.binding
    ++ [levelByte k.pressLevel, k.keyMode.byte, levelByte k.accepted, flagByte k.pressed, flagByte k.debounce.running,
        flagByte k.pressCounted]
    ++ k.lastOutcome.bytes

/-- The READ CELL body: 9 bytes (R117, R170). -/
def cellBody (s : State) (ρ : Row) (i : SourceId) : List Byte :=
  let c := (s.row ρ)[i]
  [rowByte ρ, byteOf i.val] ++ be16 c.target ++ be16 c.current ++ count16 c.step ++ [s.rowStateByte ρ]

/-- The settings as stored, in the order of SET WATCH (R155, R157, R170). -/
def watchSettings (s : State) : List Byte :=
  byteOf s.watchCode :: (count16 s.clipThreshold ++ count24 s.silenceThreshold ++ [byteOf s.silenceTime])

/-- The READ WATCH body: 259 bytes (R157, R170). -/
def watchBody (s : State) : List Byte :=
  watchSettings s ++ count24 s.watchRemaining ++ [flagByte s.lossMark]
    ++ s.sources.toList.flatMap (fun x => flagByte x.silent :: count24 x.silenceCount)
    ++ s.clips.toList.flatMap fun c => count16 c.count ++ count16 c.captured ++ [flagByte c.overThreshold]

/-- A read: the body of what the argument names, or INVALID where it names nothing (R166, R168). -/
def reportOf {α : Type} (arg : Option α) (body : α → List Byte) : Answer :=
  match arg with
  | none => refuse .invalid
  | some x => ok (body x)

/-- READ_SOURCE (R1, R168). -/
def execReadSource (p : Port) (b : Byte) (s : State) : Result :=
  s.perform (.readSource p b) fun t => (t, reportOf (indexArg 32 b) (sourceBody t))

/-- READ_RETURN (R41). -/
def execReadReturn (p : Port) (b : Byte) (s : State) : Result :=
  s.perform (.readReturn p b) fun t => (t, reportOf (indexArg 24 b) (returnBody t))

/-- READ_CONFERENCE (R55). -/
def execReadConference (p : Port) (b : Byte) (s : State) : Result :=
  s.perform (.readConference p b) fun t => (t, reportOf (indexArg 4 b) (conferenceBody t))

/-- READ_STATUS (R167). -/
def execReadStatus (p : Port) (s : State) : Result := s.perform (.readStatus p) fun t => (t, ok (statusBody t p))

/-- READ_KEY (R98). -/
def execReadKey (p : Port) (b : Byte) (s : State) : Result :=
  s.perform (.readKey p b) fun t => (t, reportOf (indexArg 8 b) (keyBody t))

/-- The cell READ CELL names: row first, then source; none where either names nothing (R117). -/
def cellArg (row source : Byte) : Option (Row × SourceId) :=
  match rowArg row, indexArg 32 source with
  | some ρ, some i => some (ρ, i)
  | _, _ => none

/-- READ_CELL (R117). -/
def execReadCell (p : Port) (row source : Byte) (s : State) : Result :=
  s.perform (.readCell p row source) fun t => (t, reportOf (cellArg row source) fun c => cellBody t c.1 c.2)

/-- READ_WATCH (R157). -/
def execReadWatch (p : Port) (s : State) : Result := s.perform (.readWatch p) fun t => (t, ok (watchBody t))

end Sys2Proof.Machine
end

