-- ==== Sys2Proof/Machine/Arbiter.lean ====
section
/-! DEFINITION. The Talkback Arbiter (04_talkback_interrupts.md, 5.2, 5.3): the decision of a request on one return, preemption and
displacement, release and promotion, the removal of a lost listener's requests, group calls and tag releases. -/

namespace Sys2Proof.Machine

/-- The hold limit of a hold code, in frames (R70). -/
def holdLimit (code : Fin 8) : Nat := Config.holdBase * 2 ^ code.val

/-- A request as it becomes active: its hold timer at the full limit (R60, R61, R69). -/
def Request.activate (q : Request) : Active := { request := q, remaining := holdLimit q.holdCode }

/-- One request taken out of a list: the one no later one beats, where `beats b x` says that b, standing after x, is chosen before x;
with it the rest of the list in order. -/
def pick (beats : Request → Request → Bool) : List Request → Option (Request × List Request)
  | [] => none
  | x :: xs =>
    match pick beats xs with
    | none => some (x, [])
    | some (b, rest) => if beats b x then some (b, x :: rest) else some (x, xs)

/-- The next request to become active: the earliest of highest priority (R69). -/
def pickNext : List Request → Option (Request × List Request) := pick fun b x => decide (x.priority < b.priority)

/-- The request a preemption discards: the latest of lowest priority (R62). -/
def pickDiscard : List Request → Option (Request × List Request) := pick fun b x => decide (b.priority ≤ x.priority)

/-- The outcome of a request on one return (R59, R64). -/
inductive TalkOutcome where
  | active (preempted discarded : Option SourceId)
  | queued (position : Nat)
  | refused (code : ResultCode)
deriving DecidableEq, Repr

/-- The pending list after a preemption: the preempted request at its head, and, of four, one discarded (R61, R62). -/
def preemptedList (old : Request) (waiting : List Request) : List Request × Option SourceId :=
  let list := old :: waiting
  if list.length ≤ Config.maxWaiting then (list, none)
  else match pickDiscard list with
    | none => (list, none)
    | some (d, rest) => (rest, some d.originator)

/-- Whether an originator has a request on the return, active or pending (R59, R67, R94). -/
def Arbitration.holds (a : Arbitration) (o : SourceId) : Bool :=
  a.active.any (fun x => x.request.originator == o) || a.waiting.any (fun x => x.originator == o)

/-- The decision of a request on one return, by the first case that applies (R59 to R63). `gone` says that the attached source is
VACANT. -/
def Arbitration.decide (gone : Bool) (a : Arbitration) (q : Request) : TalkOutcome × Arbitration :=
  if gone then (.refused .noListener, a)
  else if a.holds q.originator then (.refused .duplicate, a)
  else match a.active with
    | none => (.active none none, { a with active := some q.activate })
    | some x =>
      if x.request.priority < q.priority then
        let list := preemptedList x.request a.waiting
        (.active (some x.request.originator) list.2, { active := some q.activate, waiting := list.1 })
      else if a.waiting.length < Config.maxWaiting then
        (.queued (a.waiting.length + 1), { a with waiting := a.waiting ++ [q] })
      else (.refused .full, a)

/-- A refusal counted on a return; a count of 255 stays (R65). -/
def State.countRefusal (s : State) (r : ReturnId) : State :=
  s.setReturn r { s.returns[r] with
    refusals := if s.returns[r].refusals < Config.maxRefusals then s.returns[r].refusals + 1 else s.returns[r].refusals }

/-- Whether the attached source of a return is VACANT (R59 case 1, R73). -/
def State.listenerVacant (s : State) (r : ReturnId) : Bool :=
  match s.returns[r].attached with
  | none => false
  | some a => Decidable.decide (s.sources[a].stage = .vacant)

/-- A request aimed at one return: the decision, the row marked with talk cause where the active request changed, REQUEST DISPLACED
for a discard, a refusal counted (R59 to R65, R74). -/
def State.talkOn (s : State) (r : ReturnId) (q : Request) : State × TalkOutcome :=
  let d := s.arbiter[r].decide (s.listenerVacant r) q
  match d.1 with
  | .active _ none => ((s.setArbitration r d.2).mark (.ret r) true, d.1)
  | .active _ (some _) => (((s.setArbitration r d.2).mark (.ret r) true).raise .requestDisplaced r.val, d.1)
  | .queued _ => (s.setArbitration r d.2, d.1)
  | .refused _ => (s.countRefusal r, d.1)

/-- The arbitration record after its active request has gone: the next request promoted with a fresh hold timer, or none (R69, R71). -/
def promoted (waiting : List Request) : Arbitration :=
  match pickNext waiting with
  | none => { active := none, waiting := [] }
  | some (q, rest) => { active := some q.activate, waiting := rest }

/-- The originator of the active request, if any. -/
def Arbitration.originator (a : Arbitration) : Option SourceId := a.active.map fun x => x.request.originator

/-- What a release did on one return: how many requests it removed, whether the active one was among them, and the originator
promoted (R68, R69, R88, R97). -/
structure Released where
  number : Nat
  wasActive : Bool
  promoted : Option SourceId
deriving DecidableEq, Repr

/-- The requests that satisfy `p` released on one return; none where there is no such request (R67 to R69). In a state with the law of
R57 an originator has at most one (log entry 15). -/
def Arbitration.release (p : Request → Bool) (a : Arbitration) : Option (Released × Arbitration) :=
  let rest := a.waiting.filter fun q => !p q
  let gone := a.waiting.length - rest.length
  if a.active.any fun x => p x.request then
    let next := Sys2Proof.Machine.promoted rest
    some ({ number := gone + 1, wasActive := true, promoted := next.originator }, next)
  else if gone = 0 then none
  else some ({ number := gone, wasActive := false, promoted := none }, { a with waiting := rest })

/-- A release on one return: a pending request leaves the list (R68); for the active one the next is promoted with INTERRUPT STARTED
and the row is marked with talk cause (R69, R74). -/
def State.releaseOn (s : State) (r : ReturnId) (p : Request → Bool) : State × Option Released :=
  match s.arbiter[r].release p with
  | none => (s, none)
  | some (rel, a) =>
    let s1 := s.setArbitration r a
    let s2 := if rel.wasActive then s1.mark (.ret r) true else s1
    let s3 := if rel.promoted.isSome then s2.raise .interruptStarted r.val else s2
    (s3, some rel)

/-- Releases on every return in ascending order, with what each return that held a request did (R88, R97). -/
def State.releaseAll (s : State) (p : Request → Bool) : State × List (ReturnId × Released) :=
  (List.finRange 24).foldl
    (fun acc r => match acc.1.releaseOn r p with
      | (t, none) => (t, acc.2)
      | (t, some rel) => (t, acc.2 ++ [(r, rel)]))
    (s, [])

/-- A request of an originator, whatever its addressed-via (R67). -/
def byOriginator (o : SourceId) : Request → Bool := fun q => Decidable.decide (q.originator = o)

/-- A request of an originator addressed via a tag (R88). -/
def byTag (o : SourceId) (t : TagId) : Request → Bool := fun q => Decidable.decide (q.originator = o ∧ q.via = .tag t)

/-- A request issued by a key (R97). -/
def byKey (n : KeyId) : Request → Bool := fun q => Decidable.decide (q.origin = .key n)

/-- Every request of a return whose listener is gone removed: LISTENER GONE where there was one, the row marked with talk cause where
an active one went (R73). -/
def State.listenerGone (s : State) (r : ReturnId) : State :=
  let a := s.arbiter[r]
  if a.active.isNone && a.waiting.isEmpty then s
  else
    let t := (s.setArbitration r { active := none, waiting := [] }).raise .listenerGone r.val
    if a.active.isSome then t.mark (.ret r) true else t

/-- The active request of a return removed at its hold expiry: promotion with INTERRUPT STARTED, HOLD EXPIRED, the row marked with
talk cause (R71). -/
def State.expireHold (s : State) (r : ReturnId) : State :=
  let next := promoted s.arbiter[r].waiting
  let t := s.setArbitration r next
  let u := if next.active.isSome then t.raise .interruptStarted r.val else t
  (u.raise .holdExpired r.val).mark (.ret r) true

/-! ## Group calls -/

/-- Whether a return carries a tag in any position (R82, R85). -/
def Return.carries (x : Return) (t : TagId) : Bool := x.tags.toList.contains (some t)

/-- One visited return of a group TALK and its outcome (R87). -/
structure TalkEntry where
  ret : ReturnId
  outcome : TalkOutcome
deriving DecidableEq, Repr

/-- A group TALK at one return that carries its tag, by the return's deaf mode (R85). -/
def State.visit (s : State) (r : ReturnId) (q : Request) : State × Option TalkOutcome :=
  match s.returns[r].deaf with
  | .normal => let d := s.talkOn r q; (d.1, some d.2)
  | .deaf => (s, none)
  | .refuse => (s.countRefusal r, some (.refused .refused))

/-- A group TALK: every return that carries the tag, in ascending order, each visited once; the DEAF ones have no entry (R85 to R87). -/
def State.talkGroup (s : State) (t : TagId) (q : Request) : State × List TalkEntry :=
  (List.finRange 24).foldl
    (fun acc r =>
      if acc.1.returns[r].carries t then
        match acc.1.visit r q with
        | (u, none) => (u, acc.2)
        | (u, some o) => (u, acc.2 ++ [{ ret := r, outcome := o }])
      else acc)
    (s, [])

/-- The three counts of a group TALK (R87). -/
def talkCounts (es : List TalkEntry) : TalkCounts :=
  { active := (es.filter fun e => match e.outcome with | .active _ _ => true | _ => false).length
    queued := (es.filter fun e => match e.outcome with | .queued _ => true | _ => false).length
    refused := (es.filter fun e => match e.outcome with | .refused _ => true | _ => false).length }

/-- The result code of a group TALK (R87). -/
def groupResult (c : TalkCounts) : ResultCode :=
  if c.active + c.queued + c.refused = 0 then .noTarget else if c.active + c.queued = 0 then .refused else .ok

/-- The request record of a direct TALK (R56, R58). -/
def directRequest (o : SourceId) (r : ReturnId) (m : Mode) (pr : Fin 4) (h : Fin 8) (origin : Origin) : Request :=
  { originator := o, target := .ret r, via := .direct, mode := m, priority := pr, holdCode := h, origin := origin }

/-- The request record of a group TALK on each return it reaches (R56, R85). -/
def groupRequest (o : SourceId) (t : TagId) (m : Mode) (pr : Fin 4) (h : Fin 8) (origin : Origin) : Request :=
  { originator := o, target := .tag t, via := .tag t, mode := m, priority := pr, holdCode := h, origin := origin }

end Sys2Proof.Machine
end

