-- ==== Sys2Proof/Machine/Talkback.lean ====
section
/-! DEFINITION. TALK and RELEASE from the Talkback Port, SET TALK LEVEL, and the hold expiry (04_talkback_interrupts.md, 5.2, 5.3). -/

namespace Sys2Proof.Machine

/-- An originator: an index in range and a source of kind TALKBACK (R58, R67, R84, R88, R96). -/
def State.originatorArg (s : State) (b : Byte) : Option SourceId :=
  match indexArg 32 b with
  | none => none
  | some i => if s.sources[i].kind = .talkback then some i else none

/-- The low seven bits of a direct target: a return (R58, R171). -/
def directArg (r : BitVec 7) : Option ReturnId := if h : r.toNat < 24 then some ⟨r.toNat, h⟩ else none

/-- A talk outcome's byte: ACTIVE, QUEUED or the refusal's result code (R169). -/
def TalkOutcome.byte : TalkOutcome → Byte
  | .active _ _ => 0x00
  | .queued _ => 0x80
  | .refused c => c.byte

/-- The originator a taken request preempted (R64, R87). -/
def TalkOutcome.preempted : TalkOutcome → Option SourceId
  | .active p _ => p
  | .queued _ => none
  | .refused _ => none

/-- The originator a preemption discarded (R64, R87). -/
def TalkOutcome.discarded : TalkOutcome → Option SourceId
  | .active _ d => d
  | .queued _ => none
  | .refused _ => none

/-- The position a queued request took, 0 unless queued (R171). -/
def TalkOutcome.position : TalkOutcome → Nat
  | .active _ _ => 0
  | .queued n => n
  | .refused _ => 0

/-- The response to a direct TALK (R64, R166, R171); `s` is the state after the refusal, if any, was counted. -/
def directAnswer (s : State) (r : ReturnId) (h : Fin 8) (o : TalkOutcome) : Answer :=
  match o with
  | .refused c => { result := c, body := count16 s.returns[r].refusals }
  | .active _ _ => ok [o.byte, byteOf o.position, indexByte o.preempted, indexByte o.discarded, byteOf h.val]
  | .queued _ => ok [o.byte, byteOf o.position, indexByte o.preempted, indexByte o.discarded, byteOf h.val]

/-- TALK, direct form, at the Talkback Arbiter (R58 to R65). -/
def ownerTalkDirect (o : Byte) (ret : BitVec 7) (m p h : Byte) (t : State) : State × Answer :=
  match t.originatorArg o, directArg ret, modeArg m, indexArg 4 p with
  | some i, some r, some mode, some pr =>
    let d := t.talkOn r (directRequest i r mode pr (holdCodeArg h) .port)
    (d.1, directAnswer d.1 r (holdCodeArg h) d.2)
  | _, _, _, _ => (t, refuse .invalid)

/-- TALK_DIRECT (R59). -/
def execTalkDirect (o : Byte) (ret : BitVec 7) (m p h : Byte) (s : State) : Result :=
  s.perform (.talkDirect o ret m p h) (ownerTalkDirect o ret m p h)

/-- An entry of a group TALK's response (R87, R171). -/
def TalkEntry.bytes (e : TalkEntry) : List Byte :=
  [byteOf e.ret.val, e.outcome.byte, indexByte e.outcome.preempted, indexByte e.outcome.discarded, byteOf e.outcome.position]

/-- The response to a group TALK (R87, R166, R171). -/
def groupAnswer (h : Fin 8) (es : List TalkEntry) : Answer :=
  let c := talkCounts es
  { result := groupResult c
    body := byteOf h.val :: (count16 c.active ++ count16 c.queued ++ count16 c.refused ++ es.flatMap TalkEntry.bytes) }

/-- TALK, tag form, at the Talkback Arbiter (R84 to R87). -/
def ownerTalkTag (o : Byte) (tag : BitVec 7) (m p h : Byte) (t : State) : State × Answer :=
  match t.originatorArg o, tagNumber tag.toNat, modeArg m, indexArg 4 p with
  | some i, some g, some mode, some pr =>
    let d := t.talkGroup g (groupRequest i g mode pr (holdCodeArg h) .port)
    (d.1, groupAnswer (holdCodeArg h) d.2)
  | _, _, _, _ => (t, refuse .invalid)

/-- TALK_TAG (R85). -/
def execTalkTag (o : Byte) (tag : BitVec 7) (m p h : Byte) (s : State) : Result :=
  s.perform (.talkTag o tag m p h) (ownerTalkTag o tag m p h)

/-- RELEASE, direct form, at the Talkback Arbiter (R67 to R69, R171). -/
def ownerReleaseDirect (o : Byte) (ret : BitVec 7) (t : State) : State × Answer :=
  match t.originatorArg o, directArg ret with
  | some i, some r =>
    match t.releaseOn r (byOriginator i) with
    | (u, none) => (u, refuse .notFound)
    | (u, some rel) => (u, ok [flagByte rel.wasActive, indexByte rel.promoted])
  | _, _ => (t, refuse .invalid)

/-- RELEASE_DIRECT (R67). -/
def execReleaseDirect (o : Byte) (ret : BitVec 7) (s : State) : Result := s.perform (.releaseDirect o ret) (ownerReleaseDirect o ret)

/-- How many requests a release on several returns removed (R88, R97). -/
def removedCount (rs : List (ReturnId × Released)) : Nat := (rs.map fun x => x.2.number).sum

/-- The response to a tag release that found a request (R88, R171). The removed count is two bytes (R169; log entry 11). -/
def releaseTagBody (rs : List (ReturnId × Released)) : List Byte :=
  count16 (removedCount rs) ++ rs.flatMap fun x => [byteOf x.1.val, flagByte x.2.wasActive, indexByte x.2.promoted]

/-- RELEASE, tag form, at the Talkback Arbiter (R88). -/
def ownerReleaseTag (o : Byte) (tag : BitVec 7) (t : State) : State × Answer :=
  match t.originatorArg o, tagNumber tag.toNat with
  | some i, some g =>
    let d := t.releaseAll (byTag i g)
    (d.1, if d.2.isEmpty then refuse .notFound else ok (releaseTagBody d.2))
  | _, _ => (t, refuse .invalid)

/-- RELEASE_TAG (R88). -/
def execReleaseTag (o : Byte) (tag : BitVec 7) (s : State) : Result := s.perform (.releaseTag o tag) (ownerReleaseTag o tag)

/-- The return rows whose active request has a source as its originator (R77). -/
def State.talkingRow (s : State) (i : SourceId) : Row → Bool
  | .program => false
  | .ret r => s.arbiter[r].active.any fun x => x.request.originator == i

/-- SET TALK LEVEL at the Contributor Table (R77). -/
def ownerSetTalkLevel (source : Byte) (l : Coeff) (t : State) : State × Answer :=
  match t.originatorArg source with
  | none => (t, refuse .invalid)
  | some i => ((t.setSource i { t.sources[i] with talkLevel := l }).markRows (t.talkingRow i), ok [])

/-- SET_TALK_LEVEL (R77). -/
def execSetTalkLevel (source : Byte) (l : Coeff) (s : State) : Result := s.perform (.setTalkLevel source l) (ownerSetTalkLevel source l)

/-- Whether a return's hold timer has been brought to zero (R70). -/
def State.holdDue (s : State) (r : ReturnId) : Bool := s.arbiter[r].active.any fun x => x.remaining == 0

/-- HOLD_EXPIRY (R70, R71): comes about where a frame arrival has brought the hold timer to zero. -/
def execHoldExpiry (r : ReturnId) (s : State) : Result := s.whenever (s.holdDue r) (s.expireHold r)

end Sys2Proof.Machine
end

