-- ==== Sys2Proof/Machine/Keys.lean ====
section
/-! DEFINITION. The Key Input Block (5.4 to 5.6): debounce, acceptances, the key's request, BIND KEY, UNBIND KEY and SET DEBOUNCE. -/

namespace Sys2Proof.Machine

/-- A key's TALK from its binding, direct or to the tag, and its outcome (R80, R93, R95). -/
def State.keyTalk (s : State) (n : KeyId) (b : Binding) : State × KeyOutcome :=
  match b.target with
  | .ret r =>
    let d := s.talkOn r (directRequest b.originator r b.mode b.priority b.holdCode (.key n))
    (d.1, match d.2 with
      | .active _ _ => .active
      | .queued p => .queued p
      | .refused c => .refused c TalkCounts.zero)
  | .tag t =>
    let d := s.talkGroup t (groupRequest b.originator t b.mode b.priority b.holdCode (.key n))
    let c := talkCounts d.2
    (d.1, if groupResult c = .ok then .talked c else .refused (groupResult c) c)

/-- A key's RELEASE for its binding's target, and its outcome (R80, R93, R95). -/
def State.keyRelease (s : State) (b : Binding) : State × KeyOutcome :=
  match b.target with
  | .ret r =>
    match s.releaseOn r (byOriginator b.originator) with
    | (t, none) => (t, .notFound)
    | (t, some _) => (t, .released 1)
  | .tag g =>
    let d := s.releaseAll (byTag b.originator g)
    (d.1, if d.2.isEmpty then .notFound else .released (removedCount d.2))

/-- Whether a LATCH key's press finds a request for its target (R94). -/
def State.keyFinds (s : State) (b : Binding) : Bool :=
  match b.target with
  | .ret r => s.arbiter[r].holds b.originator
  | .tag t => (List.finRange 24).any fun r =>
      s.arbiter[r].active.any (fun x => byTag b.originator t x.request) || s.arbiter[r].waiting.any (byTag b.originator t)

/-- An outcome written to a key (R95). -/
def State.recordOutcome (d : State × KeyOutcome) (n : KeyId) : State := d.1.setKey n { d.1.keys[n] with lastOutcome := d.2 }

/-- An accepted press of a bound key (R93, R94). -/
def State.pressKey (s : State) (n : KeyId) (b : Binding) : State :=
  let t := s.setKey n { s.keys[n] with pressCounted := true }
  match s.keys[n].keyMode with
  | .momentary => State.recordOutcome (t.keyTalk n b) n
  | .latch => State.recordOutcome (if t.keyFinds b then t.keyRelease b else t.keyTalk n b) n

/-- An accepted release of a bound key (R93, R94). -/
def State.releaseKey (s : State) (n : KeyId) (b : Binding) : State :=
  let t := match s.keys[n].keyMode, s.keys[n].pressCounted with
    | .momentary, true => State.recordOutcome (s.keyRelease b) n
    | .momentary, false => s
    | .latch, _ => s
  t.setKey n { t.keys[n] with pressCounted := false }

/-- An acceptance: the line's present level is accepted and the debounce state is idle (R90); an unbound key does no more, a bound one
raises KEY EVENT and acts (R92). -/
def State.acceptKey (s : State) (n : KeyId) : State :=
  let k := s.keys[n]
  let t := s.setKey n { k with accepted := k.line, debounce := .idle }
  match k.binding with
  | none => t.setKey n { t.keys[n] with pressCounted := false }
  | some b =>
    let u := t.raise .keyEvent n.val
    if k.line = k.pressLevel then u.pressKey n b else u.releaseKey n b

/-- KEY_ACCEPTANCE (R92): comes about where the key's debounce wait runs, at its end. -/
def execKeyAcceptance (n : KeyId) (s : State) : Result := s.whenever s.keys[n].debounce.running (s.acceptKey n)

/-- A key after its line has come to a level (R90): back at the accepted level it is idle, away from it a wait starts with the full
time. -/
def Key.follow (k : Key) (level : Level) (time : Nat) : Key :=
  { k with line := level, debounce := if level = k.accepted then .idle else .waiting time }

/-- KEY_LINE_CHANGE (R90). A level the line already has is no change. In device reset only the pin moves (R89, R142). -/
def execKeyLineChange (n : KeyId) (level : Level) (s : State) : Result :=
  if s.keys[n].line = level then .next s
  else if s.inReset then .next (s.setKey n { s.keys[n] with line := level })
  else .next (s.setKey n (s.keys[n].follow level s.debounceTime))

/-- A bound key unbound: every request of its origin released, then the binding and the press count cleared; with the number released
(R97). -/
def State.unbind (s : State) (n : KeyId) : State × Nat :=
  let d := s.releaseAll (byKey n)
  (d.1.setKey n { d.1.keys[n] with binding := none, pressCounted := false }, removedCount d.2)

/-- The arguments of BIND KEY: the binding, the press level and the key mode; none where one is out of range (R96). -/
def State.bindArgs (s : State) (o target m p h l km : Byte) : Option (Binding × Level × KeyMode) :=
  match s.originatorArg o, targetArg target, modeArg m, indexArg 4 p, levelArg l, keyModeArg km with
  | some i, some g, some mode, some pr, some level, some keyMode =>
    some ({ originator := i, target := g, mode := mode, priority := pr, holdCode := holdCodeArg h }, level, keyMode)
  | _, _, _, _, _, _ => none

/-- BIND KEY at the Key Input Block (R96). The number of requests released is two bytes (R169; log entry 11). -/
def ownerBindKey (key o target m p h l km : Byte) (t : State) : State × Answer :=
  match indexArg 8 key, t.bindArgs o target m p h l km with
  | some n, some (b, level, keyMode) =>
    let prior := t.keys[n].binding
    let d := if prior.isSome then t.unbind n else (t, 0)
    (d.1.setKey n { d.1.keys[n] with
        binding := some b, pressLevel := level, keyMode := keyMode, pressCounted := false, lastOutcome := .none },
      ok (flagByte prior.isSome :: (bindingBytes prior ++ count16 d.2)))
  | _, _ => (t, refuse .invalid)

/-- BIND_KEY (R96). -/
def execBindKey (key o target m p h l km : Byte) (s : State) : Result :=
  s.perform (.bindKey key o target m p h l km) (ownerBindKey key o target m p h l km)

/-- UNBIND KEY at the Key Input Block (R97). -/
def ownerUnbindKey (key : Byte) (t : State) : State × Answer :=
  match indexArg 8 key with
  | none => (t, refuse .invalid)
  | some n =>
    if t.keys[n].binding.isNone then (t, refuse .notFound)
    else let d := t.unbind n; (d.1, ok (count16 d.2))

/-- UNBIND_KEY (R97). -/
def execUnbindKey (key : Byte) (s : State) : Result := s.perform (.unbindKey key) (ownerUnbindKey key)

/-- SET DEBOUNCE at the Key Input Block (R91). -/
def ownerSetDebounce (b : Byte) (t : State) : State × Answer :=
  let v := clamp 1 32 b.toNat
  ({ t with debounceTime := v }, ok [byteOf v])

/-- SET_DEBOUNCE (R91). -/
def execSetDebounce (b : Byte) (s : State) : Result := s.perform (.setDebounce b) (ownerSetDebounce b)

end Sys2Proof.Machine
end

