-- ==== Sys2Proof/Machine/Notices.lean ====
section
/-! DEFINITION. ACKNOWLEDGE and SET NOTICE MASK (11.2, 11.3): both act on the port that takes them. The attention line follows the map
and the mask (R176). -/

namespace Sys2Proof.Machine

/-- ACKNOWLEDGE at the Notice Unit (R177). -/
def ownerAcknowledge (p : Port) (kinds : Byte) (t : State) : State × Answer :=
  if kindsLegal p kinds then
    let q := t.port p
    (t.setPort p { q with notices := q.notices.clear kinds }, ok (mapBytes be32 p q.notices))
  else (t, refuse .invalid)

/-- SET NOTICE MASK at the Notice Unit (R175). -/
def ownerSetNoticeMask (p : Port) (kinds : Byte) (t : State) : State × Answer :=
  if kindsLegal p kinds then (t.setPort p { t.port p with mask := kinds }, ok [kinds]) else (t, refuse .invalid)

/-- ACKNOWLEDGE (R177). -/
def execAcknowledge (p : Port) (kinds : Byte) (s : State) : Result := s.perform (.acknowledge p kinds) (ownerAcknowledge p kinds)

/-- SET_NOTICE_MASK (R175). -/
def execSetNoticeMask (p : Port) (kinds : Byte) (s : State) : Result :=
  s.perform (.setNoticeMask p kinds) (ownerSetNoticeMask p kinds)

end Sys2Proof.Machine
end

