-- ==== Sys2Proof/Machine/Reset.lean ====
section
/-! DEFINITION. Device reset and its end (R2, R24, R43, R57, R89, R100, R116, R118, R142, R143, R158, R160, R163, R174, R176). -/

namespace Sys2Proof.Machine

/-- A key record in device reset: every field at its reset value, the line as the studio holds it (R89). -/
def Key.inReset (k : Key) : Key := { Key.reset with line := k.line }

/-- The part in device reset: every block at its reset values, nothing taken in. The key lines are pins of the studio and stay; the
queue is the model's own and stays. -/
def State.enterReset (s : State) : State :=
  { State.reset with keys := Vector.ofFn (fun n => s.keys[n].inReset), inReset := true, pending := s.pending }

/-- DEVICE_RESET (R142). -/
def execDeviceReset (s : State) : Result := .next s.enterReset

/-- A key as the reset ends: idle for a HIGH line, a wait of the full debounce time for a LOW one (R89). -/
def Key.wake (k : Key) (time : Nat) : Key := { k with debounce := if k.line = k.accepted then .idle else .waiting time }

/-- The end of device reset (R89, R142). -/
def State.leaveReset (s : State) : State :=
  { s with inReset := false, keys := Vector.ofFn fun n => s.keys[n].wake s.debounceTime }

/-- DEVICE_RESET_END (R142): comes about in device reset. -/
def execDeviceResetEnd (s : State) : Result := if s.inReset then .next s.leaveReset else .next s

end Sys2Proof.Machine
end

