-- ==== Sys2Proof/Machine/Sources.lean ====
section
/-! DEFINITION. The Console Port commands of the Contributor Table that move no stage (1.2, 1.3, 1.6), and SET RAMP STEPS and SET WATCH
(R131, R155). -/

namespace Sys2Proof.Machine

/-- Whether some return has a source as its attached source (R4 condition 3). -/
def State.attachedAnywhere (s : State) (i : SourceId) : Bool :=
  (List.finRange 24).any fun r => decide (s.returns[r].attached = some i)

/-- Whether a source stands in an extra minus list or a conference (R4 condition 4). -/
def State.listedAnywhere (s : State) (i : SourceId) : Bool :=
  ((List.finRange 24).any fun r => s.returns[r].minusList.contains i)
    || (List.finRange 4).any fun k => s.conferences[k].members.contains i

/-- Whether a source is the originator of a request on any return (R4 condition 5). -/
def State.talksAnywhere (s : State) (i : SourceId) : Bool :=
  (List.finRange 24).any fun r =>
    s.arbiter[r].active.any (fun x => x.request.originator == i) || s.arbiter[r].waiting.any (fun q => q.originator == i)

/-- Whether a source is the originator in a key binding (R4 condition 6). -/
def State.boundAnywhere (s : State) (i : SourceId) : Bool :=
  (List.finRange 8).any fun n => s.keys[n].binding.any fun b => b.originator == i

/-- A free source (R4). -/
def State.free (s : State) (i : SourceId) : Bool :=
  decide (s.sources[i].stage = .vacant) && !s.sources[i].on && !s.attachedAnywhere i && !s.listedAnywhere i && !s.talksAnywhere i
    && !s.boundAnywhere i && decide (s.airFeed ≠ some i)

/-- SET SOURCE KIND at the Contributor Table (R4, R5). -/
def ownerSetSourceKind (source kind : Byte) (t : State) : State × Answer :=
  match indexArg 32 source, kindArg kind with
  | some i, some k =>
    if t.free i then
      (t.setSource i { t.sources[i] with kind := k, fader := 0, on := false, talkLevel := 16384, silent := false, silenceCount := 0 }, ok [])
    else (t, refuse .inUse)
  | _, _ => (t, refuse .invalid)

/-- SET_SOURCE_KIND (R4). -/
def execSetSourceKind (source kind : Byte) (s : State) : Result :=
  s.perform (.setSourceKind source kind) (ownerSetSourceKind source kind)

/-- The refusal of a list command: its result code and the position of the failing entry (R166). -/
def refuseEntry (f : Nat × ResultCode) : Answer := { result := f.2, body := [byteOf f.1] }

/-- Rows marked by a list command: none for an empty list (R7, R8, R32). -/
def State.markUnlessEmpty {α : Type} (s : State) (es : List α) (p : Row → Bool) : State := if es.isEmpty then s else s.markRows p

/-- The checks of one entry of SET FADERS (R7). -/
def checkFader (t : State) (pos : Nat) (seen : List (Byte × Coeff)) (e : Byte × Coeff) : Option ResultCode :=
  match indexArg 32 e.1 with
  | none => some .invalid
  | some i =>
    if 32 ≤ pos ∨ seen.any (fun d => d.1 == e.1) ∨ ¬ t.sources[i].kind.hasFader then some .invalid else none

/-- One fader written. -/
def State.writeFader (t : State) (e : Byte × Coeff) : State :=
  match indexArg 32 e.1 with
  | none => t
  | some i => t.setSource i { t.sources[i] with fader := e.2 }

/-- SET FADERS at the Contributor Table (R7). -/
def ownerSetFaders (es : List (Byte × Coeff)) (t : State) : State × Answer :=
  match checkEntries (checkFader t) 0 [] es with
  | some f => (t, refuseEntry f)
  | none => ((es.foldl State.writeFader t).markUnlessEmpty es everyRow, ok [])

/-- SET_FADERS (R7). -/
def execSetFaders (es : List (Byte × Coeff)) (s : State) : Result := s.perform (.setFaders es) (ownerSetFaders es)

/-- The checks of one entry of SET SOURCE ON (R8). -/
def checkOn (t : State) (pos : Nat) (seen : List (Byte × Byte)) (e : Byte × Byte) : Option ResultCode :=
  match indexArg 32 e.1 with
  | none => some .invalid
  | some i =>
    if 32 ≤ pos ∨ seen.any (fun d => d.1 == e.1) ∨ ¬ t.sources[i].kind.hasOn ∨ (onArg e.2).isNone then some .invalid else none

/-- One on state written. -/
def State.writeOn (t : State) (e : Byte × Byte) : State :=
  match indexArg 32 e.1, onArg e.2 with
  | some i, some o => t.setSource i { t.sources[i] with on := o }
  | _, _ => t

/-- SET SOURCE ON at the Contributor Table (R8). -/
def ownerSetSourceOn (es : List (Byte × Byte)) (t : State) : State × Answer :=
  match checkEntries (checkOn t) 0 [] es with
  | some f => (t, refuseEntry f)
  | none => ((es.foldl State.writeOn t).markUnlessEmpty es everyRow, ok [])

/-- SET_SOURCE_ON (R8). -/
def execSetSourceOn (es : List (Byte × Byte)) (s : State) : Result := s.perform (.setSourceOn es) (ownerSetSourceOn es)

/-- SET AIR FEED at the Contributor Table (R18). -/
def ownerSetAirFeed (source : Byte) (t : State) : State × Answer :=
  match optionArg 32 source with
  | none => (t, refuse .invalid)
  | some none => ({ t with airFeed := none }.markRows everyReturnRow, ok [])
  | some (some i) =>
    if t.sources[i].kind = .air then ({ t with airFeed := some i }.markRows everyReturnRow, ok []) else (t, refuse .invalid)

/-- SET_AIR_FEED (R18). -/
def execSetAirFeed (source : Byte) (s : State) : Result := s.perform (.setAirFeed source) (ownerSetAirFeed source)

/-- SET AIR DELAY at the Contributor Table (R19). -/
def ownerSetAirDelay (d : BitVec 16) (t : State) : State × Answer :=
  let v := clamp 0 Config.maxAirDelay d.toNat
  ({ t with airDelay := v }, ok (count16 v))

/-- SET_AIR_DELAY (R19). -/
def execSetAirDelay (d : BitVec 16) (s : State) : Result := s.perform (.setAirDelay d) (ownerSetAirDelay d)

/-- SET RAMP STEPS at the Mix Engine (R131). -/
def ownerSetRampSteps (p k : BitVec 16) (t : State) : State × Answer :=
  let pv := clamp 1 Config.maxStep p.toNat
  let kv := clamp 1 Config.maxStep k.toNat
  ({ t with programStep := pv, talkStep := kv }, ok (count16 pv ++ count16 kv))

/-- SET_RAMP_STEPS (R131). -/
def execSetRampSteps (p k : BitVec 16) (s : State) : Result := s.perform (.setRampSteps p k) (ownerSetRampSteps p k)

/-- SET WATCH at the Level Monitor (R155). -/
def ownerSetWatch (w : Byte) (c : BitVec 16) (th : BitVec 24) (st : Byte) (t : State) : State × Answer :=
  let wv := clamp 0 7 w.toNat
  let cv := clamp 1 65535 c.toNat
  let tv := clamp 0 Config.maxMagnitude th.toNat
  let sv := clamp 1 60 st.toNat
  ({ t with watchCode := wv, clipThreshold := cv, silenceThreshold := tv, silenceTime := sv },
    ok (byteOf wv :: (count16 cv ++ count24 tv ++ [byteOf sv])))

/-- SET_WATCH (R155). -/
def execSetWatch (w : Byte) (c : BitVec 16) (th : BitVec 24) (st : Byte) (s : State) : Result :=
  s.perform (.setWatch w c th st) (ownerSetWatch w c th st)

end Sys2Proof.Machine
end

