-- ==== Sys2Proof/Machine/Returns.lean ====
section
/-! DEFINITION. The Return Table (02_returns_and_the_minus_set.md, R82): SET RETURN, SET MINUS LIST, CLEAR RETURN, SELECT MONITOR, ATTACH
RETURN, SET DIP LEVEL, SET TAGS and CLEAR REFUSALS. -/

namespace Sys2Proof.Machine

/-- An entry of SET RETURN. -/
abbrev ReturnEntry := Byte × Coeff × BitVec 24 × Byte

/-- The checks of one entry of SET RETURN (R32). -/
def checkReturn (pos : Nat) (seen : List ReturnEntry) (e : ReturnEntry) : Option ResultCode :=
  if 24 ≤ pos ∨ (indexArg 24 e.1).isNone ∨ seen.any (fun d => d.1 == e.1) ∨ (feedArg e.2.2.2).isNone then some .invalid else none

/-- One entry of SET RETURN written, its ceiling clamped (R32, R33). -/
def State.writeReturn (t : State) (e : ReturnEntry) : State :=
  match indexArg 24 e.1, feedArg e.2.2.2 with
  | some r, some f =>
    t.setReturn r { t.returns[r] with
      level := e.2.1, ceiling := clamp 0 Config.maxMagnitude e.2.2.1.toNat, defaultFeed := f }
  | _, _ => t

/-- The rows of the returns a SET RETURN list names (R32). -/
def namedRow (es : List ReturnEntry) : Row → Bool
  | .program => false
  | .ret r => es.any fun e => e.1.toNat == r.val

/-- SET RETURN at the Return Table (R32). -/
def ownerSetReturn (es : List ReturnEntry) (t : State) : State × Answer :=
  match checkEntries checkReturn 0 [] es with
  | some f => (t, refuseEntry f)
  | none => ((es.foldl State.writeReturn t).markRows (namedRow es), ok [])

/-- SET_RETURN (R32). -/
def execSetReturn (es : List ReturnEntry) (s : State) : Result := s.perform (.setReturn es) (ownerSetReturn es)

/-- The checks of one entry of SET MINUS LIST: a source of a kind the list admits, and none named before (R29). -/
def checkMinus (t : State) (_pos : Nat) (seen : List Byte) (b : Byte) : Option ResultCode :=
  match indexArg 32 b with
  | none => some .invalid
  | some i => if ¬ t.sources[i].kind.mayJoin then some .invalid else if seen.contains b then some .duplicate else none

/-- SET MINUS LIST at the Return Table (R29, R30). A list of more than four entries reports position 4 (R166). -/
def ownerSetMinusList (ret : Byte) (bs : List Byte) (t : State) : State × Answer :=
  match indexArg 24 ret with
  | none => (t, refuse .invalid)
  | some r =>
    if Config.maxMinus < bs.length then (t, refuseEntry (Config.maxMinus, .invalid))
    else match checkEntries (checkMinus t) 0 [] bs with
      | some f => (t, refuseEntry f)
      | none =>
        ((t.setReturn r { t.returns[r] with minusList := bs.filterMap (indexArg 32) }).markRows (onlyReturn r), ok [])

/-- SET_MINUS_LIST (R29). -/
def execSetMinusList (ret : Byte) (bs : List Byte) (s : State) : Result := s.perform (.setMinusList ret bs) (ownerSetMinusList ret bs)

/-- CLEAR RETURN at the Return Table (R35). -/
def ownerClearReturn (ret : Byte) (t : State) : State × Answer :=
  match indexArg 24 ret with
  | none => (t, refuse .invalid)
  | some r =>
    ((t.setReturn r { t.returns[r] with level := 16384, ceiling := 8388607, defaultFeed := .silent, minusList := [] }).markRows
      (onlyReturn r), ok [])

/-- CLEAR_RETURN (R35). -/
def execClearReturn (ret : Byte) (s : State) : Result := s.perform (.clearReturn ret) (ownerClearReturn ret)

/-- SELECT MONITOR at the Return Table (R40). -/
def ownerSelectMonitor (ret : Byte) (t : State) : State × Answer :=
  match optionArg 24 ret with
  | none => (t, refuse .invalid)
  | some m => ({ t with monitor := m }, ok [])

/-- SELECT_MONITOR (R40). -/
def execSelectMonitor (ret : Byte) (s : State) : Result := s.perform (.selectMonitor ret) (ownerSelectMonitor ret)

/-- Whether a source is the attached source of another return (R25 check 4). -/
def State.attachedElsewhere (s : State) (r : ReturnId) (i : SourceId) : Bool :=
  (List.finRange 24).any fun q => decide (q ≠ r) && decide (s.returns[q].attached = some i)

/-- A return's attached source written and its row marked; a VACANT source's return loses its requests (R26, R27). -/
def State.link (s : State) (r : ReturnId) (a : Option SourceId) : State :=
  let t := (s.setReturn r { s.returns[r] with attached := a }).markRows (onlyReturn r)
  match a with
  | none => t
  | some i => if s.sources[i].stage = .vacant then t.listenerGone r else t

/-- ATTACH RETURN at the Return Table (R25 to R27). -/
def ownerAttachReturn (ret source : Byte) (t : State) : State × Answer :=
  match indexArg 24 ret, optionArg 32 source with
  | some r, some a =>
    let prior := t.returns[r].attached
    let admitted : Bool := match a with | none => true | some i => t.sources[i].kind.hasStage
    let busy : Bool := match a with | none => false | some i => t.attachedElsewhere r i
    if !admitted then (t, refuse .invalid)
    else if busy then (t, refuse .inUse)
    else if a = prior then (t, ok [indexByte prior])
    else (t.link r a, ok [indexByte prior])
  | _, _ => (t, refuse .invalid)

/-- ATTACH_RETURN (R25). -/
def execAttachReturn (ret source : Byte) (s : State) : Result := s.perform (.attachReturn ret source) (ownerAttachReturn ret source)

/-- SET DIP LEVEL at the Return Table (R78). -/
def ownerSetDipLevel (ret : Byte) (l : Coeff) (t : State) : State × Answer :=
  match indexArg 24 ret with
  | none => (t, refuse .invalid)
  | some r => ((t.setReturn r { t.returns[r] with dipLevel := l }).markRows (onlyReturn r), ok [])

/-- SET_DIP_LEVEL (R78). -/
def execSetDipLevel (ret : Byte) (l : Coeff) (s : State) : Result := s.perform (.setDipLevel ret l) (ownerSetDipLevel ret l)

/-- Whether one tag stands in two of three positions (R82 check 4). -/
def tagsRepeat (a b c : Option TagId) : Bool :=
  (a.isSome && decide (a = b)) || (a.isSome && decide (a = c)) || (b.isSome && decide (b = c))

/-- SET TAGS at the Return Table (R82). -/
def ownerSetTags (ret b0 b1 b2 d : Byte) (t : State) : State × Answer :=
  match indexArg 24 ret, tagPositionArg b0, tagPositionArg b1, tagPositionArg b2, deafArg d with
  | some r, some t0, some t1, some t2, some m =>
    let x := t.returns[r]
    if tagsRepeat t0 t1 t2 then (t, refuse .duplicate)
    else (t.setReturn r { x with tags := #v[t0, t1, t2], deaf := m }, ok (x.tags.toList.map tagPositionByte ++ [x.deaf.byte]))
  | _, _, _, _, _ => (t, refuse .invalid)

/-- SET_TAGS (R82). -/
def execSetTags (ret b0 b1 b2 d : Byte) (s : State) : Result := s.perform (.setTags ret b0 b1 b2 d) (ownerSetTags ret b0 b1 b2 d)

/-- CLEAR REFUSALS at the Talkback Arbiter (R66): one return's count, or all 24. -/
def ownerClearRefusals (ret : Byte) (t : State) : State × Answer :=
  match optionArg 24 ret with
  | none => (t, refuse .invalid)
  | some (some r) => (t.setReturn r { t.returns[r] with refusals := 0 }, ok (count16 t.returns[r].refusals))
  | some none =>
    ({ t with returns := Vector.ofFn fun r => { t.returns[r] with refusals := 0 } },
      ok (t.returns.toList.flatMap fun x => count16 x.refusals))

/-- CLEAR_REFUSALS (R66). -/
def execClearRefusals (ret : Byte) (s : State) : Result := s.perform (.clearRefusals ret) (ownerClearRefusals ret)

end Sys2Proof.Machine
end

