-- ==== Sys2Proof/Machine/Stages.lean ====
section
/-! DEFINITION. The contributor stage (1.4, 1.7): ATTACH, SCREEN, PARK, MARK READY, TAKE, DROP and DETACH, by the stage table of R9, and
the air-exit guard's expiry. -/

namespace Sys2Proof.Machine

/-- A stage command's source: an index in range and a caller or codec, or INVALID (R9). -/
def State.withRemote (s : State) (source : Byte) (act : SourceId → State × Answer) : State × Answer :=
  match indexArg 32 source with
  | none => (s, refuse .invalid)
  | some i => if s.sources[i].kind.hasStage then act i else (s, refuse .invalid)

/-- A source's stage written. -/
def State.setStage (s : State) (i : SourceId) (g : Stage) : State := s.setSource i { s.sources[i] with stage := g }

/-- A stage change among VACANT, SCREEN, HOLD and READY that marks the row of the attached return (R10 to R12). -/
def State.moveStage (s : State) (i : SourceId) (g : Stage) : State := (s.setStage i g).markRows (s.attachedRow i)

/-- ATTACH at the Contributor Table (R9, R10). -/
def ownerAttach (source : Byte) (t : State) : State × Answer :=
  t.withRemote source fun i => match t.sources[i].stage with
    | .vacant => (t.moveStage i .screen, ok [])
    | .screen | .hold | .ready | .air => (t, refuse .state)

/-- ATTACH (R10). -/
def execAttach (source : Byte) (s : State) : Result := s.perform (.attach source) (ownerAttach source)

/-- SCREEN at the Contributor Table (R9, R11). -/
def ownerScreen (source : Byte) (t : State) : State × Answer :=
  t.withRemote source fun i => match t.sources[i].stage with
    | .screen => (t, ok [])
    | .hold | .ready => (t.moveStage i .screen, ok [])
    | .vacant | .air => (t, refuse .state)

/-- SCREEN (R11). -/
def execScreen (source : Byte) (s : State) : Result := s.perform (.screen source) (ownerScreen source)

/-- PARK at the Contributor Table (R9, R11). -/
def ownerPark (source : Byte) (t : State) : State × Answer :=
  t.withRemote source fun i => match t.sources[i].stage with
    | .hold => (t, ok [])
    | .screen | .ready => (t.moveStage i .hold, ok [])
    | .vacant | .air => (t, refuse .state)

/-- PARK (R11). -/
def execPark (source : Byte) (s : State) : Result := s.perform (.park source) (ownerPark source)

/-- MARK READY at the Contributor Table (R9, R12). -/
def ownerMarkReady (source : Byte) (t : State) : State × Answer :=
  t.withRemote source fun i => match t.sources[i].stage with
    | .ready => (t, ok [])
    | .screen | .hold => ((t.moveStage i .ready).raise .readyMarked i.val, ok [])
    | .vacant | .air => (t, refuse .state)

/-- MARK_READY (R12). -/
def execMarkReady (source : Byte) (s : State) : Result := s.perform (.markReady source) (ownerMarkReady source)

/-- A READY source put on air (R13): stage, guard cancelled, conference left, STAGE CHANGED, every row marked. -/
def State.putOnAir (s : State) (i : SourceId) : State :=
  (((s.setSource i { s.sources[i] with stage := .air, guard := none }).exitConference i).raise .stageChanged i.val).markRows everyRow

/-- TAKE at the Contributor Table (R9, R13). R28's fourth pair has TAKE move a source in SCREEN to AIR, where R9, R13, R17 and R166
refuse it NOT READY, and no ruling settles the conflict: following the latter is the model's choice (DESIGN CHOICE, log entry 20). -/
def ownerTake (source : Byte) (t : State) : State × Answer :=
  t.withRemote source fun i => match t.sources[i].stage with
    | .ready => (t.putOnAir i, ok [])
    | .air => (t, ok [])
    | .screen | .hold => (t, refuse .notReady)
    | .vacant => (t, refuse .state)

/-- TAKE (R13). -/
def execTake (source : Byte) (s : State) : Result := s.perform (.take source) (ownerTake source)

/-- An AIR source dropped to HOLD (R14): a guard of the air delay in frames starts where the delay is above 0 ms. -/
def State.dropToHold (s : State) (i : SourceId) : State :=
  let guard := if s.airDelay = 0 then s.sources[i].guard else some (s.airDelay * Config.framesPerMs)
  ((s.setSource i { s.sources[i] with stage := .hold, guard := guard }).raise .stageChanged i.val).markRows everyRow

/-- DROP at the Contributor Table (R9, R14). -/
def ownerDrop (source : Byte) (t : State) : State × Answer :=
  t.withRemote source fun i => match t.sources[i].stage with
    | .air => (t.dropToHold i, ok [])
    | .vacant | .screen | .hold | .ready => (t, refuse .state)

/-- DROP (R14). -/
def execDrop (source : Byte) (s : State) : Result := s.perform (.drop source) (ownerDrop source)

/-- The requests of the return attached to a source removed (R15 step 5, R16 step 3). -/
def State.listenersGone (s : State) (i : SourceId) : State :=
  (List.finRange 24).foldl (fun t r => if s.returns[r].attached = some i then t.listenerGone r else t) s

/-- The rows that depend on a source that DETACH takes from SCREEN, HOLD or READY (R15). -/
def State.dependentRow (s : State) (i : SourceId) (ρ : Row) : Bool := s.attachedRow i ρ || s.minusRow i ρ || s.ownConferenceRow i ρ

/-- A call ended from SCREEN, HOLD or READY (R15). The rows are marked before the requests are removed, so that they join the queue in
the order of R111; the talk cause of a removed active request then sets its row's flag (R110). -/
def State.endCall (s : State) (i : SourceId) : State :=
  let t := (s.setSource i { s.sources[i] with stage := .vacant, guard := none, silent := false, silenceCount := 0 }).exitConference i
  (t.markRows (s.dependentRow i)).listenersGone i

/-- A forced drop: DETACH of a source in AIR (R16). The rows are marked before the requests are removed, as in endCall. -/
def State.forceDrop (s : State) (i : SourceId) : State :=
  let t := s.setSource i { s.sources[i] with stage := .vacant, silent := false, silenceCount := 0 }
  ((t.markRows everyRow).listenersGone i).raise .forcedDrop i.val

/-- DETACH at the Contributor Table (R9, R15, R16). -/
def ownerDetach (source : Byte) (t : State) : State × Answer :=
  t.withRemote source fun i => match t.sources[i].stage with
    | .vacant => (t, refuse .state)
    | .screen | .hold | .ready => (t.endCall i, ok [])
    | .air => (t.forceDrop i, ok [])

/-- DETACH (R15, R16). -/
def execDetach (source : Byte) (s : State) : Result := s.perform (.detach source) (ownerDetach source)

/-- The expiry of a guard (R22): it no longer runs, and every return row whose minus set holds the source is marked. -/
def State.expireGuard (s : State) (i : SourceId) : State :=
  (s.setSource i { s.sources[i] with guard := none }).markRows (s.minusRow i)

/-- AIR_EXIT_GUARD_EXPIRY (R20, R22): comes about where a frame arrival has brought the guard's count to zero. -/
def execAirExitGuardExpiry (i : SourceId) (s : State) : Result :=
  s.whenever (decide (s.sources[i].guard = some 0)) (s.expireGuard i)

end Sys2Proof.Machine
end

