-- ==== Sys2Proof/Machine/Transactions.lean ====
section
/-! DEFINITION. The transactions of a port (10.1, 10.2): COMMAND, FETCH and a transaction that has no effect. -/

namespace Sys2Proof.Machine

/-- The response frame a FETCH sends, by the slot's state (R161, R169): slot state, overrun flag, echoed code, result code, body length,
body. -/
def responseFrame (q : PortState) : List Byte :=
  match q.slot with
  | .empty => [0, flagByte q.overrun, 0, 0, 0, 0]
  | .working code _ => [1, flagByte q.overrun, code, 0, 0, 0]
  | .done code result body => [2, flagByte q.overrun, code, result.byte] ++ count16 body.length ++ body

/-- The bits clocked out in `n` bit periods after the direction byte of a FETCH: the frame, then zeros (R158, R161). -/
def clockOut (n : Nat) (frame : List Byte) : List Bool := (frame.flatMap byteBits ++ List.replicate n false).take n

/-- A port after a FETCH that clocks `n` bits after its direction byte (R161): zeros sent with the direction byte, then the response
frame; a DONE slot becomes EMPTY and its overrun flag is cleared. -/
def PortState.fetched (q : PortState) (n : Nat) : PortState :=
  let sent := { q with dataOut := List.replicate 8 false ++ clockOut n (responseFrame q) }
  match q.slot with
  | .done _ _ _ => { sent with slot := .empty, overrun := false }
  | .empty => sent
  | .working _ _ => sent

/-- A transaction on a port, from select's fall to its rise, by the bits taken in (R158): the first whole byte chooses COMMAND or FETCH;
any other, or none, has no effect. -/
def State.transact (s : State) (p : Port) (bits : List Bool) : State :=
  match wholeBytes bits with
  | [] => s
  | d :: frame => match directionOf d with
    | some .command => s.arrive p frame bits.length
    | some .fetch => s.setPort p ((s.port p).fetched (bits.length - 8))
    | none => s

/-- COMMAND_TRANSACTION (R159, R160, R164). -/
def execCommandTransaction (p : Port) (frame : Clocked) (s : State) : Result :=
  s.whenever true (s.transact p (frameBits frame.bytes ++ frame.tail))

/-- FETCH (R161). -/
def execFetch (p : Port) (dataIn : Clocked) (s : State) : Result :=
  s.whenever true (s.transact p ((fetchDirection :: dataIn.bytes).flatMap byteBits ++ dataIn.tail))

/-- INVALID_TRANSACTION (R158): abandoned at a device reset, or without a direction byte that names a transaction. -/
def execInvalidTransaction (p : Port) (x : Stray) (s : State) : Result := s.whenever (!x.abandoned) (s.transact p x.bits)

end Sys2Proof.Machine
end

