-- ==== Sys2Proof/Machine/Dispatch.lean ====
section
/-! DEFINITION. The dispatch of a command to its meaning, one arm per row of spec/opcode_table.json, in the table's order. -/

namespace Sys2Proof.Machine

def exec (i : Instr) (s : State) : Host.Outcome State Fault Refusal :=
  match i with
  | .commandTransaction port frame => Sys2Proof.Machine.execCommandTransaction port frame s
  | .fetch port dataIn => Sys2Proof.Machine.execFetch port dataIn s
  | .invalidTransaction port stray => Sys2Proof.Machine.execInvalidTransaction port stray s
  | .readSource port source => Sys2Proof.Machine.execReadSource port source s
  | .readReturn port ret => Sys2Proof.Machine.execReadReturn port ret s
  | .readConference port conference => Sys2Proof.Machine.execReadConference port conference s
  | .readStatus port => Sys2Proof.Machine.execReadStatus port s
  | .readKey port key => Sys2Proof.Machine.execReadKey port key s
  | .acknowledge port kinds => Sys2Proof.Machine.execAcknowledge port kinds s
  | .setNoticeMask port kinds => Sys2Proof.Machine.execSetNoticeMask port kinds s
  | .readCell port row source => Sys2Proof.Machine.execReadCell port row source s
  | .readWatch port => Sys2Proof.Machine.execReadWatch port s
  | .setSourceKind source kind => Sys2Proof.Machine.execSetSourceKind source kind s
  | .setFaders entries => Sys2Proof.Machine.execSetFaders entries s
  | .setSourceOn entries => Sys2Proof.Machine.execSetSourceOn entries s
  | .take source => Sys2Proof.Machine.execTake source s
  | .drop source => Sys2Proof.Machine.execDrop source s
  | .setReturn entries => Sys2Proof.Machine.execSetReturn entries s
  | .setMinusList ret sources => Sys2Proof.Machine.execSetMinusList ret sources s
  | .clearReturn ret => Sys2Proof.Machine.execClearReturn ret s
  | .setAirFeed source => Sys2Proof.Machine.execSetAirFeed source s
  | .setAirDelay delay => Sys2Proof.Machine.execSetAirDelay delay s
  | .setRampSteps programStep talkStep => Sys2Proof.Machine.execSetRampSteps programStep talkStep s
  | .setWatch watchCode clipThreshold silenceThreshold silenceTime => Sys2Proof.Machine.execSetWatch watchCode clipThreshold silenceThreshold silenceTime s
  | .selectMonitor ret => Sys2Proof.Machine.execSelectMonitor ret s
  | .attach source => Sys2Proof.Machine.execAttach source s
  | .detach source => Sys2Proof.Machine.execDetach source s
  | .screen source => Sys2Proof.Machine.execScreen source s
  | .park source => Sys2Proof.Machine.execPark source s
  | .markReady source => Sys2Proof.Machine.execMarkReady source s
  | .attachReturn ret source => Sys2Proof.Machine.execAttachReturn ret source s
  | .join source conference => Sys2Proof.Machine.execJoin source conference s
  | .leave source => Sys2Proof.Machine.execLeave source s
  | .setConference conference gain bed => Sys2Proof.Machine.execSetConference conference gain bed s
  | .talkDirect originator ret mode priority holdCode => Sys2Proof.Machine.execTalkDirect originator ret mode priority holdCode s
  | .talkTag originator tag mode priority holdCode => Sys2Proof.Machine.execTalkTag originator tag mode priority holdCode s
  | .releaseDirect originator ret => Sys2Proof.Machine.execReleaseDirect originator ret s
  | .releaseTag originator tag => Sys2Proof.Machine.execReleaseTag originator tag s
  | .setTalkLevel source level => Sys2Proof.Machine.execSetTalkLevel source level s
  | .setDipLevel ret level => Sys2Proof.Machine.execSetDipLevel ret level s
  | .setTags ret tag0 tag1 tag2 deaf => Sys2Proof.Machine.execSetTags ret tag0 tag1 tag2 deaf s
  | .bindKey key originator target mode priority holdCode pressLevel keyMode => Sys2Proof.Machine.execBindKey key originator target mode priority holdCode pressLevel keyMode s
  | .unbindKey key => Sys2Proof.Machine.execUnbindKey key s
  | .clearRefusals ret => Sys2Proof.Machine.execClearRefusals ret s
  | .setDebounce time => Sys2Proof.Machine.execSetDebounce time s
  | .frameArrival slots => Sys2Proof.Machine.execFrameArrival slots s
  | .silenceLimitReached source slots => Sys2Proof.Machine.execSilenceLimitReached source slots s
  | .watchIntervalExpiry slots => Sys2Proof.Machine.execWatchIntervalExpiry slots s
  | .airExitGuardExpiry source => Sys2Proof.Machine.execAirExitGuardExpiry source s
  | .holdExpiry ret => Sys2Proof.Machine.execHoldExpiry ret s
  | .shortFrame => Sys2Proof.Machine.execShortFrame s
  | .syncLoss => Sys2Proof.Machine.execSyncLoss s
  | .keyLineChange key level => Sys2Proof.Machine.execKeyLineChange key level s
  | .keyAcceptance key => Sys2Proof.Machine.execKeyAcceptance key s
  | .recomposeTake => Sys2Proof.Machine.execRecomposeTake s
  | .recomposeCompletion => Sys2Proof.Machine.execRecomposeCompletion s
  | .deviceReset => Sys2Proof.Machine.execDeviceReset s
  | .deviceResetEnd => Sys2Proof.Machine.execDeviceResetEnd s
  | .frameSyncRisingEdge => Sys2Proof.Machine.execFrameSyncRisingEdge s

end Sys2Proof.Machine
end

