-- ==== Sys2Proof/Machine/Step.lean ====
section
/-! DEFINITION. The step of the part: the command at the front of the queue, run with the queue's rest; on an empty queue a bit period of
the bit clock passes (log entry 2). -/

namespace Sys2Proof.Machine

/-- One step: take the command at the front of the queue and run it (log entry 1); with none waiting, a bit period (log entry 2). -/
def step (s : State) : Host.Outcome State Fault Refusal :=
  match s.pending with
  | [] => .next s.bitPeriod
  | c :: rest => exec c { s with pending := rest }

/-- A command put at the front of the queue. -/
def State.withCommand (s : State) (c : Instr) : State := { s with pending := c :: s.pending }

/-- The command that a word of the opcode table spells put at the front of the queue; no row of the table gives bits, so no word
spells a command (log entry 17). -/
def State.withFetchWord (s : State) (nbits w : Nat) : State :=
  match decodeTableWord nbits w with
  | none => s
  | some c => s.withCommand c

end Sys2Proof.Machine
end

