-- ==== Sys2Proof/Safety.lean ====
section
/-! DEFINITION. What a sound state of the DV2432 is: the laws that the rules of the spec keep at every event, each as a predicate on
State. Claims about steps are stated in these terms. -/

namespace Sys2Proof.Machine

/-- R57 on one return: at most three pending requests, no two requests of one originator, no pending request without an active one, and
none of a higher priority than the active one. -/
structure Arbitration.Lawful (a : Arbitration) : Prop where
  short : a.waiting.length ≤ 3
  distinct : (a.waiting.map Request.originator).Nodup
  activeApart : ∀ x, a.active = some x → x.request.originator ∉ a.waiting.map Request.originator
  backed : a.active = none → a.waiting = []
  outranked : ∀ x, a.active = some x → ∀ q ∈ a.waiting, q.priority ≤ x.request.priority

/-- R57 on every return. -/
def State.ArbiterLawful (s : State) : Prop := ∀ r : ReturnId, s.arbiter[r].Lawful

/-- R43, R53, R1: the member lists are short, hold no source twice, agree with the source records, and hold no source that may not be a
member: a CALLER or CODEC in SCREEN, HOLD or READY, or a STUDIO source. -/
structure State.ConferencesLawful (s : State) : Prop where
  short : ∀ k : ConferenceId, s.conferences[k].members.length ≤ 8
  distinct : ∀ k : ConferenceId, s.conferences[k].members.Nodup
  agree : ∀ (i : SourceId) (k : ConferenceId), s.sources[i].conference = some k ↔ i ∈ s.conferences[k].members
  admitted : ∀ (i : SourceId) (k : ConferenceId), i ∈ s.conferences[k].members →
    s.sources[i].kind = .studio ∨
      ((s.sources[i].kind = .caller ∨ s.sources[i].kind = .codec) ∧
        (s.sources[i].stage = .screen ∨ s.sources[i].stage = .hold ∨ s.sources[i].stage = .ready))

/-- R109: the recompose queue holds each row at most once. -/
def State.QueueLawful (s : State) : Prop := (s.queue.map QueueEntry.row).Nodup

/-- R160, R161, R164: an EMPTY slot has its overrun flag clear, and a WORKING slot holds a command that passed the port's checks. -/
def State.SlotsLawful (s : State) : Prop :=
  ∀ p : Port,
    ((s.port p).slot = .empty → (s.port p).overrun = false) ∧
    ∀ code params, (s.port p).slot = .working code params →
      portCheck p (code :: BitVec.ofNat 8 params.length :: params) = .passed code params

/-- R136, R129: the gap timer runs in LOCKED alone, and in LOST every held sample and every current value is 0. -/
structure State.SyncLawful (s : State) : Prop where
  gap : s.gap.isSome ↔ s.sync = .locked
  quiet : s.sync = .lost → (∀ j : Fin 32, s.held[j] = 0) ∧ ∀ (ρ : Row) (i : SourceId), (s.row ρ)[i].current = 0

/-- R133, R135: a frame that is being collected has taken in fewer than 256 bit periods, and an output frame is under way exactly while
one is. -/
structure State.LanesLawful (s : State) : Prop where
  count : ∀ n, s.assembly = .collecting n → n < 256
  output : s.outFrame.isSome ↔ s.assembly ≠ .waiting

/-- R89 to R92, R97: out of device reset a key is idle exactly when its line stands at its accepted level; a running wait lies within 1 to
32 ms; press counted is set on a bound key alone. -/
structure State.KeysLawful (s : State) : Prop where
  idle : s.inReset = false → ∀ n : KeyId, s.keys[n].debounce = .idle ↔ s.keys[n].line = s.keys[n].accepted
  waits : ∀ (n : KeyId) (left : Nat), s.keys[n].debounce = .waiting left → 1 ≤ left ∧ left ≤ 32
  counted : ∀ n : KeyId, s.keys[n].pressCounted = true → s.keys[n].binding ≠ none

/-- The ranges the records give their counts and settings (R20, R23, R70, R91, R100, R118, R131, R143, R155). A guard or a hold timer
stands at 0 while its expiry is due (log entry 6). -/
structure State.RangesLawful (s : State) : Prop where
  guards : ∀ (i : SourceId) (n : Nat), s.sources[i].guard = some n → n ≤ 1920000
  silence : ∀ i : SourceId, s.sources[i].silenceCount ≤ 2880000
  airDelay : s.airDelay ≤ 40000
  ceilings : ∀ r : ReturnId, s.returns[r].ceiling ≤ 8388607
  refusals : ∀ r : ReturnId, s.returns[r].refusals ≤ 255
  holds : ∀ (r : ReturnId) (x : Active), s.arbiter[r].active = some x → x.remaining ≤ 12288000
  debounce : 1 ≤ s.debounceTime ∧ s.debounceTime ≤ 32
  steps : ∀ (ρ : Row) (i : SourceId), 1 ≤ (s.row ρ)[i].step ∧ (s.row ρ)[i].step ≤ 4096
  programStep : 1 ≤ s.programStep ∧ s.programStep ≤ 4096
  talkStep : 1 ≤ s.talkStep ∧ s.talkStep ≤ 4096
  clips : ∀ r : ReturnId, s.clips[r].count ≤ 65535 ∧ s.clips[r].captured ≤ 65535
  watchCode : s.watchCode ≤ 7
  clipThreshold : 1 ≤ s.clipThreshold ∧ s.clipThreshold ≤ 65535
  silenceThreshold : s.silenceThreshold ≤ 8388607
  silenceTime : 1 ≤ s.silenceTime ∧ s.silenceTime ≤ 60
  watchRemaining : 1 ≤ s.watchRemaining ∧ s.watchRemaining ≤ 1536000

/-- The cross-references between the tables that the rules keep: only callers and codecs have a stage (R3); a guard runs in SCREEN, HOLD
or READY alone (R20); a source is attached to one return at most, and is a caller or codec (R25); an extra minus list is short, without
repeats, of kinds it admits (R23, R29); the originators of requests and bindings are TALKBACK sources (R79, R96); a return of a VACANT
source holds no request (R73); the air feed is an AIR source (R18); a request of origin KEY n stands while the key is bound, with its
binding's originator (R96, R97). -/
structure State.TablesLawful (s : State) : Prop where
  staged : ∀ i : SourceId, s.sources[i].stage ≠ .vacant → s.sources[i].kind = .caller ∨ s.sources[i].kind = .codec
  guarded : ∀ i : SourceId, s.sources[i].guard ≠ none →
    s.sources[i].stage = .screen ∨ s.sources[i].stage = .hold ∨ s.sources[i].stage = .ready
  attachedKind : ∀ (r : ReturnId) (i : SourceId), s.returns[r].attached = some i →
    s.sources[i].kind = .caller ∨ s.sources[i].kind = .codec
  attachedOnce : ∀ (r q : ReturnId) (i : SourceId), s.returns[r].attached = some i → s.returns[q].attached = some i → r = q
  minusShort : ∀ r : ReturnId, s.returns[r].minusList.length ≤ 4
  minusDistinct : ∀ r : ReturnId, s.returns[r].minusList.Nodup
  minusKind : ∀ (r : ReturnId), ∀ i ∈ s.returns[r].minusList,
    s.sources[i].kind = .caller ∨ s.sources[i].kind = .codec ∨ s.sources[i].kind = .studio
  activeKind : ∀ (r : ReturnId) (x : Active), s.arbiter[r].active = some x → s.sources[x.request.originator].kind = .talkback
  waitingKind : ∀ (r : ReturnId), ∀ q ∈ s.arbiter[r].waiting, s.sources[q.originator].kind = .talkback
  bindingKind : ∀ (n : KeyId) (b : Binding), s.keys[n].binding = some b → s.sources[b.originator].kind = .talkback
  listening : ∀ (r : ReturnId) (i : SourceId), s.returns[r].attached = some i → s.sources[i].stage = .vacant →
    s.arbiter[r] = { active := none, waiting := [] }
  airFeedKind : ∀ i : SourceId, s.airFeed = some i → s.sources[i].kind = .air
  activeOwned : ∀ (r : ReturnId) (x : Active) (n : KeyId), s.arbiter[r].active = some x → x.request.origin = .key n →
    ∃ b, s.keys[n].binding = some b ∧ b.originator = x.request.originator
  waitingOwned : ∀ (r : ReturnId) (n : KeyId), ∀ q ∈ s.arbiter[r].waiting, q.origin = .key n →
    ∃ b, s.keys[n].binding = some b ∧ b.originator = q.originator

/-- R115: a row that is neither queued nor in flight holds in every cell the target that the composition gives for the tables as they
stand; and the recomposition of a row in flight that is not queued again is about to write those targets. -/
structure State.SettledLawful (s : State) : Prop where
  settled : ∀ ρ : Row, s.queued ρ = false → s.flying ρ = false → ∀ i : SourceId, (s.row ρ)[i].target = s.targetOf ρ i
  landing : ∀ f : InFlight, s.inFlight = some f → s.queued f.row = false → ∀ i : SourceId, f.targets[i] = s.targetOf f.row i

/-- The laws of the tables that the composition rests on. -/
structure State.Lawful (s : State) : Prop where
  tables : s.TablesLawful
  conferences : s.ConferencesLawful
  arbiter : s.ArbiterLawful

/-! ## The terms of the claims -/

/-- A part out of device reset whose port is working a command: the state in which the command's owner takes it (R160, R162). -/
structure State.Holds (s : State) (p : Port) (code : Byte) (params : List Byte) : Prop where
  awake : s.inReset = false
  working : (s.port p).slot = .working code params

/-- The command completes: where its port works it, the next state is `t` with the response `a` in the port's slot (R162). -/
def Completes (c : Instr) (p : Port) (code : Byte) (params : List Byte) (s t : State) (a : Answer) : Prop :=
  s.Holds p code params → exec c s = .next (t.answer p code a)

/-- A byte that carries an index (R169). -/
def Names {n : Nat} (b : Byte) (i : Fin n) : Prop := b.toNat = i.val

/-- The queue after one event has marked the rows that satisfy `p` (R110, R111): queued rows keep their places and take the cause, the
missing ones join in row order. -/
def joinQueue (q : List QueueEntry) (p : Row → Bool) (talk : Bool) : List QueueEntry :=
  (q.map fun e => if p e.row then { e with talk := e.talk || talk } else e) ++
    (rowOrder.filter fun ρ => p ρ && !q.any fun e => e.row == ρ).map fun ρ => { row := ρ, talk := talk }

/-- Notices of one kind raised for several indices (R174). -/
def State.raiseEach (s : State) (k : NoticeKind) (is : List Nat) : State := is.foldl (fun t i => t.raise k i) s

/-- A list check's first failing position (R7, R8, R29, R32). -/
def FirstFailure (fails : Nat → Prop) (n : Nat) : Prop := fails n ∧ ∀ m, m < n → ¬ fails m

/-- An originator that has a request on a return, active or pending (R59, R67). -/
def Arbitration.HasRequestOf (a : Arbitration) (o : SourceId) : Prop :=
  (∃ x, a.active = some x ∧ x.request.originator = o) ∨ ∃ q ∈ a.waiting, q.originator = o

end Sys2Proof.Machine
end

