-- ==== Sys2Proof/WellFormed.lean ====
section
/-! DEFINITION. Which terms of Instr stand for a step the part can be given: a list command's parameters fit the 250 bytes of
a command frame (R164), the byte that a transaction leaves incomplete has fewer than eight bits, and an invalid transaction is an
abandoned one or has no direction byte that names a transaction (R158). Every other operand is well formed by its type. -/

namespace Sys2Proof

open Machine (wholeBytes directionOf)

/-- Bits that begin no transaction: fewer than eight, or a first byte that is no direction byte (R158). -/
def noDirection (bits : List Bool) : Bool :=
  match wholeBytes bits with
  | [] => true
  | d :: _ => (directionOf d).isNone

/-- A well-formed command. -/
def Instr.wellFormed : Instr → Bool
  | .commandTransaction _ x => decide (x.tail.length < 8)
  | .fetch _ x => decide (x.tail.length < 8)
  | .invalidTransaction _ x => x.abandoned || noDirection x.bits
  | .setFaders es => decide (3 * es.length ≤ Config.maxParams)
  | .setSourceOn es => decide (2 * es.length ≤ Config.maxParams)
  | .setReturn es => decide (7 * es.length ≤ Config.maxParams)
  | .setMinusList _ ss => decide (1 + ss.length ≤ Config.maxParams)
  | _ => true

end Sys2Proof
end

