-- ==== Sys2Proof/Certificates/Slice0/Obligations.lean ====
section
/-! DEFINITION. The statements for the provers. The helpers of the namespace Claims write, from the rules, the state or the record that a
rule gives; the obligations say that the machine reaches it. A controller command is stated at its completion (`Completes`); how it
arrives is stated once for all commands. -/

namespace Sys2Proof.Claims

open Sys2Proof.Machine

/-! ## Sources -/

/-- A caller or a codec (R3). -/
abbrev Remote (x : Source) : Prop := x.kind = .caller ∨ x.kind = .codec

/-- A kind that may stand in an extra minus list or a conference (R3). -/
abbrev Joinable (x : Source) : Prop := x.kind = .caller ∨ x.kind = .codec ∨ x.kind = .studio

/-- A byte that names no source in the role of a caller or codec (R9). -/
def NoRemote (s : State) (b : Byte) : Prop := ∀ i : SourceId, Names b i → ¬ Remote s.sources[i]

/-- A byte that names no TALKBACK source (R58). -/
def NoOriginator (s : State) (b : Byte) : Prop := ∀ i : SourceId, Names b i → s.sources[i].kind ≠ .talkback

/-- The free source of R4. -/
structure Free (s : State) (i : SourceId) : Prop where
  vacant : s.sources[i].stage = .vacant
  off : s.sources[i].on = false
  unattached : ∀ r : ReturnId, s.returns[r].attached ≠ some i
  unlisted : ∀ r : ReturnId, i ∉ s.returns[r].minusList
  outside : ∀ k : ConferenceId, i ∉ s.conferences[k].members
  silentNow : ∀ (r : ReturnId) (x : Active), s.arbiter[r].active = some x → x.request.originator ≠ i
  silentNext : ∀ r : ReturnId, ∀ q ∈ s.arbiter[r].waiting, q.originator ≠ i
  unbound : ∀ (n : KeyId) (b : Binding), s.keys[n].binding = some b → b.originator ≠ i
  notFeed : s.airFeed ≠ some i

/-- The failing entries of SET FADERS (R7). -/
def FaderFails (s : State) (es : List (Byte × Coeff)) (n : Nat) : Prop :=
  ∃ e, es[n]? = some e ∧
    (32 ≤ n ∨ 32 ≤ e.1.toNat ∨ (∃ m d, m < n ∧ es[m]? = some d ∧ d.1 = e.1) ∨
      ∃ i : SourceId, Names e.1 i ∧ ¬ (Remote s.sources[i] ∨ s.sources[i].kind = .studio ∨ s.sources[i].kind = .playout))

/-- The failing entries of SET SOURCE ON (R8). -/
def OnFails (s : State) (es : List (Byte × Byte)) (n : Nat) : Prop :=
  ∃ e, es[n]? = some e ∧
    (32 ≤ n ∨ 32 ≤ e.1.toNat ∨ (∃ m d, m < n ∧ es[m]? = some d ∧ d.1 = e.1) ∨ 2 ≤ e.2.toNat ∨
      ∃ i : SourceId, Names e.1 i ∧ ¬ (s.sources[i].kind = .studio ∨ s.sources[i].kind = .playout))

/-- The sources after a taken SET FADERS (R7). -/
def afterFaders (s : State) (es : List (Byte × Coeff)) : Vector Source 32 :=
  Vector.ofFn fun i => match es.find? fun e => e.1.toNat == i.val with
    | none => s.sources[i]
    | some e => { s.sources[i] with fader := e.2 }

/-- The sources after a taken SET SOURCE ON (R8). -/
def afterOn (s : State) (es : List (Byte × Byte)) : Vector Source 32 :=
  Vector.ofFn fun i => match es.find? fun e => e.1.toNat == i.val with
    | none => s.sources[i]
    | some e => { s.sources[i] with on := decide (e.2 = 1) }

/-- The queue after a list command over every row: no mark for an empty list (R7, R8). -/
def afterList {α : Type} (s : State) (es : List α) : List QueueEntry := if es = [] then s.queue else joinQueue s.queue everyRow false

/-- The rows of the returns attached to a source (R10). -/
def attachedTo (s : State) (i : SourceId) : Row → Bool
  | .program => false
  | .ret r => decide (s.returns[r].attached = some i)

/-- The rows of the returns attached to members of a list (R45). -/
def attachedIn (s : State) (l : List SourceId) : Row → Bool
  | .program => false
  | .ret r => l.any fun i => decide (s.returns[r].attached = some i)

/-- The members of a source's conference, none where it is in none (R43). -/
def fellows (s : State) (i : SourceId) : List SourceId :=
  match s.sources[i].conference with
  | none => []
  | some k => s.conferences[k].members

/-- The conferences with a source out of its own (R43, R49, R51). -/
def without (s : State) (i : SourceId) : Vector Conference 4 :=
  match s.sources[i].conference with
  | none => s.conferences
  | some k => s.conferences.set k { s.conferences[k] with members := s.conferences[k].members.filter fun m => m != i }

/-- CONFERENCE EXIT raised where a source was a member (R51, R52). -/
def exitNotice (s t : State) (i : SourceId) : State :=
  if s.sources[i].conference.isSome then t.raise .conferenceExit i.val else t

/-- The state after a stage move among VACANT, SCREEN, HOLD and READY (R10 to R12). -/
def afterMove (s : State) (i : SourceId) (g : Stage) : State :=
  { s with sources := s.sources.set i { s.sources[i] with stage := g }, queue := joinQueue s.queue (attachedTo s i) false }

/-- The state after a taken TAKE of a READY source (R13). -/
def afterTake (s : State) (i : SourceId) : State :=
  let t : State := { s with
    sources := s.sources.set i { s.sources[i] with stage := .air, guard := none, conference := none }
    conferences := without s i
    queue := joinQueue s.queue everyRow false }
  (exitNotice s t i).raise .stageChanged i.val

/-- The state after a taken DROP (R14). -/
def afterDrop (s : State) (i : SourceId) : State :=
  let t : State := { s with
    sources := s.sources.set i { s.sources[i] with
      stage := .hold, guard := if 0 < s.airDelay then some (s.airDelay * 48) else s.sources[i].guard }
    queue := joinQueue s.queue everyRow false }
  t.raise .stageChanged i.val

/-- The requests of the returns attached to a source removed (R15 step 5, R16 step 3, R73): the arbiter, the talk-cause marks and
LISTENER GONE; the rows of the detachment itself are queued before. -/
def afterListenersGone (s : State) (i : SourceId) (q : List QueueEntry) : State :=
  let lost (r : ReturnId) : Bool := decide (s.returns[r].attached = some i)
  let held (r : ReturnId) : Bool := s.arbiter[r].active.isSome || !s.arbiter[r].waiting.isEmpty
  let t : State := { s with
    arbiter := Vector.ofFn fun r => if lost r then { active := none, waiting := [] } else s.arbiter[r]
    queue := joinQueue q (fun ρ => match ρ with | .program => false | .ret r => lost r && s.arbiter[r].active.isSome) true }
  t.raiseEach .listenerGone (((List.finRange 24).filter fun r => lost r && held r).map fun r => r.val)

/-- The rows that depend on a source that DETACH takes from SCREEN, HOLD or READY (R15). -/
def dependent (s : State) (i : SourceId) : Row → Bool
  | .program => false
  | .ret r => decide (s.returns[r].attached = some i) || s.returns[r].minusList.contains i ||
      (fellows s i).any fun m => decide (s.returns[r].attached = some m)

/-- The state after DETACH from SCREEN, HOLD or READY (R15). -/
def afterCallEnd (s : State) (i : SourceId) : State :=
  let t : State := { s with
    sources := s.sources.set i { s.sources[i] with
      stage := .vacant, guard := none, conference := none, silent := false, silenceCount := 0 }
    conferences := without s i }
  exitNotice s (afterListenersGone t i (joinQueue s.queue (dependent s i) false)) i

/-- The state after DETACH from AIR (R16). -/
def afterForcedDrop (s : State) (i : SourceId) : State :=
  let t : State := { s with
    sources := s.sources.set i { s.sources[i] with stage := .vacant, silent := false, silenceCount := 0 } }
  (afterListenersGone t i (joinQueue s.queue everyRow false)).raise .forcedDrop i.val

/-! ## Conferences and returns -/

/-- The state after a taken JOIN of a source that is not a member yet (R47, R48). -/
def afterJoin (s : State) (i : SourceId) (k : ConferenceId) : State :=
  let left := without s i
  { s with
    sources := s.sources.set i { s.sources[i] with conference := some k }
    conferences := left.set k { left[k] with members := left[k].members ++ [i] }
    queue := joinQueue s.queue (fun ρ => attachedIn s (fellows s i) ρ || attachedIn s (left[k].members ++ [i]) ρ) false }

/-- The state after a taken LEAVE (R49). -/
def afterLeave (s : State) (i : SourceId) : State :=
  { s with
    sources := s.sources.set i { s.sources[i] with conference := none }
    conferences := without s i
    queue := joinQueue s.queue (attachedIn s (fellows s i)) false }

/-- A default feed's value (R169). -/
def feedOf (b : Byte) : Feed := if b = 0 then .program else if b = 1 then .air else .silent

/-- The failing entries of SET RETURN (R32). -/
def ReturnFails (es : List (Byte × Coeff × BitVec 24 × Byte)) (n : Nat) : Prop :=
  ∃ e, es[n]? = some e ∧
    (24 ≤ n ∨ 24 ≤ e.1.toNat ∨ (∃ m d, m < n ∧ es[m]? = some d ∧ d.1 = e.1) ∨ 3 ≤ e.2.2.2.toNat)

/-- The state after a taken SET RETURN (R32, R33). -/
def afterSetReturn (s : State) (es : List (Byte × Coeff × BitVec 24 × Byte)) : State :=
  { s with
    returns := Vector.ofFn fun r => match es.find? fun e => e.1.toNat == r.val with
      | none => s.returns[r]
      | some e => { s.returns[r] with
          level := e.2.1, ceiling := min 8388607 e.2.2.1.toNat, defaultFeed := feedOf e.2.2.2 }
    queue := joinQueue s.queue
      (fun ρ => match ρ with | .program => false | .ret r => es.any fun e => e.1.toNat == r.val) false }

/-- The entries of SET MINUS LIST that fail INVALID (R29 check 3). -/
def MinusInvalid (s : State) (bs : List Byte) (n : Nat) : Prop :=
  ∃ b, bs[n]? = some b ∧ ∀ i : SourceId, Names b i → ¬ Joinable s.sources[i]

/-- The entries of SET MINUS LIST that fail DUPLICATE (R29 check 3). -/
def MinusRepeats (bs : List Byte) (n : Nat) : Prop := ∃ b m, bs[n]? = some b ∧ m < n ∧ bs[m]? = some b

/-- The state after one return's record is written and its row marked (R30, R35, R78). -/
def afterReturn (s : State) (r : ReturnId) (x : Return) : State :=
  { s with returns := s.returns.set r x, queue := joinQueue s.queue (onlyReturn r) false }

/-- The state after an attachment (R26, R27, R73): a VACANT source's return loses its requests. -/
def afterAttachReturn (s : State) (r : ReturnId) (a : Option SourceId) : State :=
  let t := afterReturn s r { s.returns[r] with attached := a }
  match a with
  | none => t
  | some i =>
    if s.sources[i].stage = .vacant then
      let u : State := { t with
        arbiter := t.arbiter.set r { active := none, waiting := [] }
        queue := if s.arbiter[r].active.isSome then joinQueue t.queue (onlyReturn r) true else t.queue }
      if s.arbiter[r].active.isSome ∨ s.arbiter[r].waiting ≠ [] then u.raise .listenerGone r.val else u
    else t

/-- A source of a return's minus set (R31). -/
abbrev Minus (s : State) (r : ReturnId) (j : SourceId) : Prop := j ∈ s.returns[r].minusList ∨ s.returns[r].attached = some j

/-- A return whose attached source is in a stage. -/
abbrev AtStage (s : State) (r : ReturnId) (g : Stage) : Prop := ∃ a, s.returns[r].attached = some a ∧ s.sources[a].stage = g

/-- The demotion of an AIR base (R38): no air feed, or a source of the minus set in AIR or under a running guard. -/
def Demoted (s : State) (r : ReturnId) : Prop :=
  s.airFeed = none ∨ ∃ j, Minus s r j ∧ (s.sources[j].stage = .air ∨ s.sources[j].guard ≠ none)

/-- The base feed before demotion (R37): the default feed without an attached source, else by its stage. -/
def Wants (s : State) (r : ReturnId) (f : Feed) : Prop :=
  (s.returns[r].attached = none ∧ s.returns[r].defaultFeed = f) ∨
    match f with
    | .program => AtStage s r .ready ∨ AtStage s r .air
    | .air => AtStage s r .hold
    | .silent => AtStage s r .screen

/-- The row state that reads report (R115, R169). -/
def rowState (s : State) (ρ : Row) : Byte :=
  if s.queue.any fun e => decide (e.row = ρ) then 1 else if s.inFlight.any fun f => decide (f.row = ρ) then 2 else 0

/-! ## Talkback -/

/-- The hold limit in frames (R70). -/
def limit (code : Fin 8) : Nat := 96000 * 2 ^ code.val

/-- A request with a fresh hold timer (R60, R61, R69). -/
def fresh (q : Request) : Active := { request := q, remaining := limit q.holdCode }

/-- A refusal count after one more refusal (R65). -/
def countUp (n : Nat) : Nat := if n < 255 then n + 1 else n

/-- A VACANT attached source (R59 case 1). -/
def gone (s : State) (r : ReturnId) : Bool :=
  match s.returns[r].attached with
  | none => false
  | some i => decide (s.sources[i].stage = .vacant)

/-- The decision of a request on a return (R59), by the table that RequestsAreDecidedByTheFirstCase states. -/
def decision (s : State) (r : ReturnId) (q : Request) : TalkOutcome × Arbitration := s.arbiter[r].decide (gone s r) q

/-- The outcome of a group TALK on a return; none where it is not visited (R85). -/
def groupOutcome (s : State) (t : TagId) (q : Request) (r : ReturnId) : Option TalkOutcome :=
  if some t ∈ s.returns[r].tags.toList then
    match s.returns[r].deaf with
    | .normal => some (decision s r q).1
    | .deaf => none
    | .refuse => some (.refused .refused)
  else none

/-- An outcome that makes a request active. -/
def activates : Option TalkOutcome → Bool
  | some (.active _ _) => true
  | _ => false

/-- An outcome that queues a request. -/
def queues : Option TalkOutcome → Bool
  | some (.queued _) => true
  | _ => false

/-- An outcome that refuses a request. -/
def refuses : Option TalkOutcome → Bool
  | some (.refused _) => true
  | _ => false

/-- An outcome that discards a request (R62). -/
def displaces : Option TalkOutcome → Bool
  | some (.active _ (some _)) => true
  | _ => false

/-- The rows of the returns that satisfy `p`. -/
def returnRows (p : ReturnId → Bool) : Row → Bool
  | .program => false
  | .ret r => p r

/-- The state after outcomes on several returns in one event (R60 to R63, R65, R85, R86); `o` gives each return's outcome, none where
the return is not reached. -/
def afterOutcomes (s : State) (q : Request) (o : ReturnId → Option TalkOutcome) : State :=
  let t : State := { s with
    arbiter := Vector.ofFn fun r => if activates (o r) || queues (o r) then (decision s r q).2 else s.arbiter[r]
    returns := Vector.ofFn fun r =>
      if refuses (o r) then { s.returns[r] with refusals := countUp s.returns[r].refusals } else s.returns[r]
    queue := joinQueue s.queue (returnRows fun r => activates (o r)) true }
  t.raiseEach .requestDisplaced (((List.finRange 24).filter fun r => displaces (o r)).map fun r => r.val)

/-- The outcome of a direct TALK, by return (R58, R59). -/
def directOutcome (s : State) (r : ReturnId) (q : Request) (r' : ReturnId) : Option TalkOutcome :=
  if r' = r then some (decision s r q).1 else none

/-- How many returns a predicate holds of. -/
def countReturns (p : ReturnId → Bool) : Nat := ((List.finRange 24).filter p).length

/-- The counts of a group TALK (R87). -/
def groupCounts (s : State) (t : TagId) (q : Request) : TalkCounts :=
  { active := countReturns fun r => activates (groupOutcome s t q r)
    queued := countReturns fun r => queues (groupOutcome s t q r)
    refused := countReturns fun r => refuses (groupOutcome s t q r) }

/-- The result code of a group TALK (R87): NO TARGET for no visited return, REFUSED for no return that took the request. -/
def groupCode (c : TalkCounts) : ResultCode :=
  if c.active + c.queued + c.refused = 0 then .noTarget else if c.active + c.queued = 0 then .refused else .ok

/-- An outcome's entry in the body of a group TALK (R87, R171): its return, outcome, preempted and discarded originators, position. -/
def entryBytes (r : ReturnId) : TalkOutcome → List Byte
  | .active p d => [byteOf r.val, 0x00, indexByte p, indexByte d, 0]
  | .queued n => [byteOf r.val, 0x80, 0xFF, 0xFF, byteOf n]
  | .refused c => [byteOf r.val, c.byte, 0xFF, 0xFF, 0]

/-- The body of a group TALK (R87, R171). -/
def groupBody (s : State) (t : TagId) (q : Request) : List Byte :=
  let c := groupCounts s t q
  byteOf q.holdCode.val :: (count16 c.active ++ count16 c.queued ++ count16 c.refused ++
    (List.finRange 24).flatMap fun r => match groupOutcome s t q r with
      | none => []
      | some o => entryBytes r o)

/-- An active request that satisfies `p`. -/
def activeHit (a : Arbitration) (p : Request → Bool) : Bool := a.active.any fun x => p x.request

/-- A request, active or pending, that satisfies `p`. -/
def hit (a : Arbitration) (p : Request → Bool) : Bool := activeHit a p || a.waiting.any p

/-- An arbitration record after the release of the request that satisfies `p` (R68, R69): a pending one leaves the list; for the
active one the next is promoted, as PromotionTakesTheEarliestOfHighestPriority states. -/
def afterRelease (a : Arbitration) (p : Request → Bool) : Arbitration :=
  if activeHit a p then promoted a.waiting else { a with waiting := a.waiting.filter fun q => !p q }

/-- The state after releases on the returns that satisfy `on`, in one event (R68, R69, R88, R97). -/
def afterReleases (s : State) (p : Request → Bool) (on : ReturnId → Bool) : State :=
  let t : State := { s with
    arbiter := Vector.ofFn fun r => if on r then afterRelease s.arbiter[r] p else s.arbiter[r]
    queue := joinQueue s.queue (returnRows fun r => on r && activeHit s.arbiter[r] p) true }
  t.raiseEach .interruptStarted
    (((List.finRange 24).filter fun r => on r && activeHit s.arbiter[r] p && !s.arbiter[r].waiting.isEmpty).map fun r => r.val)

/-- The was-active flag and the promoted originator of a release on a return (R69, R171). -/
def releaseBytes (a : Arbitration) (p : Request → Bool) : List Byte :=
  if activeHit a p then [1, indexByte ((promoted a.waiting).active.map fun x => x.request.originator)] else [0, 0xFF]

/-- How many returns hold a request that satisfies `p`. -/
def hits (s : State) (p : Request → Bool) : Nat := countReturns fun r => hit s.arbiter[r] p

/-- The body of a tag release (R88, R171). -/
def releaseBody (s : State) (p : Request → Bool) : List Byte :=
  count16 (hits s p) ++ (List.finRange 24).flatMap fun r =>
    if hit s.arbiter[r] p then byteOf r.val :: releaseBytes s.arbiter[r] p else []

/-- The state after a hold expiry (R71). -/
def afterHoldExpiry (s : State) (r : ReturnId) : State :=
  let next := promoted s.arbiter[r].waiting
  let t : State := { s with
    arbiter := s.arbiter.set r next
    queue := joinQueue s.queue (onlyReturn r) true }
  let u := t.raise .holdExpired r.val
  if s.arbiter[r].waiting = [] then u else u.raise .interruptStarted r.val

/-! ## Keys -/

/-- The state after a key's last outcome is written (R95). -/
def withOutcome (s : State) (n : KeyId) (o : KeyOutcome) : State := s.setKey n { s.keys[n] with lastOutcome := o }

/-- The outcome of a key's direct TALK (R95). -/
def directKeyOutcome : TalkOutcome → KeyOutcome
  | .active _ _ => .active
  | .queued p => .queued p
  | .refused c => .refused c { active := 0, queued := 0, refused := 0 }

/-- A key's TALK for its binding and its outcome (R80, R93, R95). -/
def afterKeyTalk (s : State) (n : KeyId) (b : Binding) : State :=
  match b.target with
  | .ret r =>
    let q := directRequest b.originator r b.mode b.priority b.holdCode (.key n)
    withOutcome (afterOutcomes s q (directOutcome s r q)) n (directKeyOutcome (decision s r q).1)
  | .tag t =>
    let q := groupRequest b.originator t b.mode b.priority b.holdCode (.key n)
    let c := groupCounts s t q
    withOutcome (afterOutcomes s q (groupOutcome s t q)) n
      (if groupCode c = .ok then .talked c else .refused (groupCode c) c)

/-- The requests a key's RELEASE looks for on a return: the originator's for a return target, the originator's addressed via the tag
for a tag target (R67, R88). -/
def keyRequest (b : Binding) : Request → Bool :=
  match b.target with
  | .ret _ => fun q => decide (q.originator = b.originator)
  | .tag t => fun q => decide (q.originator = b.originator) && decide (q.via = .tag t)

/-- The returns a key's RELEASE looks at (R67, R88). -/
def keyReach (b : Binding) : ReturnId → Bool :=
  match b.target with
  | .ret r => fun r' => decide (r' = r)
  | .tag _ => fun _ => true

/-- How many requests a key's RELEASE finds. -/
def keyHits (s : State) (b : Binding) : Nat := countReturns fun r => keyReach b r && hit s.arbiter[r] (keyRequest b)

/-- A key's RELEASE for its binding and its outcome (R80, R93, R95). -/
def afterKeyRelease (s : State) (n : KeyId) (b : Binding) : State :=
  withOutcome (afterReleases s (keyRequest b) (keyReach b)) n
    (if keyHits s b = 0 then .notFound else .released (keyHits s b))

/-- A binding's bytes in a response, 0xFF in each for none (R171). -/
def priorBytes : Option Binding → List Byte
  | none => [0, 0xFF, 0xFF, 0xFF, 0xFF, 0xFF]
  | some b => [1, byteOf b.originator.val, b.target.byte, b.mode.byte, byteOf b.priority.val, byteOf b.holdCode.val]

/-- The requests of a key (R97). -/
def ofKey (n : KeyId) : Request → Bool := fun q => decide (q.origin = .key n)

/-! ## Frames -/

/-- The input sample of a source: the value of the first 24 bit periods of its slot (R119 step 1, R173). -/
def sample (slots : Vector SlotWord 32) (i : SourceId) : Int := (slots[i].extractLsb' 8 24).toInt

/-- A current value one frame on (R120). -/
def ramped (c : Cell) : Nat :=
  if Nat.dist c.target.toNat c.current.toNat ≤ c.step then c.target.toNat
  else if c.current.toNat < c.target.toNat then c.current.toNat + c.step else c.current.toNat - c.step

/-- The rounded sum of a row from its ramped cells (R122, R123). -/
def rounded (s : State) (slots : Vector SlotWord 32) (ρ : Row) : Int :=
  (((∑ i : SourceId, sample slots i * (ramped (s.row ρ)[i] : Int)) + 8192 : Int) : Int) / 16384

/-- A sample held within 24 bits (R124 stage 1). -/
def saturated (y : Int) : Int := if 8388607 < y then 8388607 else if y < -8388608 then -8388608 else y

/-- A sample held within a ceiling (R124 stage 2). -/
def ceiled (c : Nat) (y : Int) : Int := if (c : Int) < y then c else if y < -(c : Int) then -(c : Int) else y

/-- A return's final sample (R124). -/
def finalSample (s : State) (slots : Vector SlotWord 32) (r : ReturnId) : Int :=
  ceiled s.returns[r].ceiling (saturated (rounded s slots (.ret r)))

/-- Whether a return's sample is clipped: a stage changed it (R125). -/
def isClipped (s : State) (slots : Vector SlotWord 32) (r : ReturnId) : Bool :=
  decide (saturated (rounded s slots (.ret r)) ≠ rounded s slots (.ret r)) ||
    decide (finalSample s slots r ≠ saturated (rounded s slots (.ret r)))

/-- Whether a source's sample is loud (R145). -/
def isLoud (s : State) (slots : Vector SlotWord 32) (i : SourceId) : Bool := decide (s.silenceThreshold ≤ (sample slots i).natAbs)

/-- A silence counter after a frame (R146, R147). -/
def heardCount (s : State) (slots : Vector SlotWord 32) (i : SourceId) : Nat :=
  if isLoud s slots i then 0 else min (s.silenceTime * 48000) (s.sources[i].silenceCount + 1)

/-- A silence status after a frame (R146, R147): SILENT where the counter stands at the limit. -/
def heardSilent (s : State) (slots : Vector SlotWord 32) (i : SourceId) : Bool :=
  if isLoud s slots i then false else s.sources[i].silent || decide (heardCount s slots i = s.silenceTime * 48000)

/-- A clip accumulator after a frame's clipped sample (R150). -/
def clipCount (s : State) (slots : Vector SlotWord 32) (r : ReturnId) : Nat :=
  if isClipped s slots r then (if s.clips[r].count < 65535 then s.clips[r].count + 1 else s.clips[r].count) else s.clips[r].count

/-- A clip threshold passed at a frame (R151). -/
def passesThreshold (s : State) (slots : Vector SlotWord 32) (r : ReturnId) : Bool :=
  isClipped s slots r && decide (s.clipThreshold < clipCount s slots r) && !s.clips[r].overThreshold

end Sys2Proof.Claims

open Sys2Proof Sys2Proof.Machine Sys2Proof.Claims

/-! ## The machine -/

/-- A step runs the command at the front of the queue on the state with the queue's rest; on an empty queue a bit period passes, which a
frame that is being collected counts up to its 255th (R133; the queue and the tick are the model's choice, log entries 1, 2 and 10). -/
def Obligations.StepRunsTheFrontOfTheQueue : Prop :=
  (∀ (c : Instr) (rest : List Instr) (s : State), s.pending = c :: rest → step s = exec c { s with pending := rest }) ∧
  (∀ (c : Instr) (s : State), step (s.withCommand c) = exec c s) ∧
  ∀ s : State, s.pending = [] →
    (s.inReset = true ∨ s.assembly = .waiting → step s = .next s) ∧
    (s.inReset = false → ∀ n, s.assembly = .collecting n →
      step s = .next { s with assembly := .collecting (if n < 255 then n + 1 else n) })

/-- Every command answers a next state and leaves the queue of waiting commands as it is, and nothing a command does depends on that
queue (log entry 1; the spec describes no event that stops the part). -/
def Obligations.EveryCommandCompletesAndIgnoresTheQueue : Prop :=
  ∀ (c : Instr) (s : State), ∃ t, exec c s = .next t ∧ t.pending = s.pending ∧
    ∀ q : List Instr, exec c { s with pending := q } = .next { t with pending := q }

/-- R2: what a device reset leaves in the Contributor Table, and that every source then contributes 0 and has a zero target in every
cell, stored and composed. -/
def Obligations.DeviceResetRestoresTheContributorTable : Prop :=
  ∀ s : State, ∃ t, exec .deviceReset s = .next t ∧
    (∀ i : SourceId, t.sources[i] =
      { kind := .unused, stage := .vacant, fader := 0, on := false, talkLevel := 16384, guard := none, conference := none,
        silent := false, silenceCount := 0 }) ∧
    t.airFeed = none ∧ t.airDelay = 0 ∧
    (∀ i : SourceId, t.sources[i].contribution = 0) ∧
    ∀ (ρ : Row) (i : SourceId), (t.row ρ)[i].target = 0 ∧ t.targetOf ρ i = 0

/-- The rest of the part in device reset (R24, R43, R57, R89, R91, R100, R109, R118, R133, R136, R142, R143, R160, R174, R175, R176); the
lines of the keys and the queue of waiting commands stay (log entry 9). That the records of the output frame and of the data-out pins are
empty is the model's (log entries 8 and 18). -/
def Obligations.DeviceResetRestoresEveryOtherBlock : Prop :=
  ∀ s : State, ∃ t, exec .deviceReset s = .next t ∧ t.inReset = true ∧ t.pending = s.pending ∧
    (∀ p : Port, t.port p =
      { slot := .empty, overrun := false, dataOut := [], notices := { sets := #v[0, 0, 0, 0, 0], sync := false }, mask := 0 } ∧
      t.attention p = false) ∧
    (∀ r : ReturnId, t.returns[r] =
      { attached := none, minusList := [], defaultFeed := .silent, level := 16384, ceiling := 8388607,
        tags := #v[none, none, none], deaf := .normal, dipLevel := 4096, refusals := 0 } ∧
      t.arbiter[r] = { active := none, waiting := [] } ∧
      t.clips[r] = { count := 0, captured := 0, overThreshold := false }) ∧
    (∀ k : ConferenceId, t.conferences[k] = { members := [], gain := 16384, bed := 8192 }) ∧
    (∀ n : KeyId, t.keys[n] =
      { binding := none, pressLevel := .low, keyMode := .momentary, accepted := .high, debounce := .idle, pressCounted := false,
        lastOutcome := .none, line := s.keys[n].line }) ∧
    (∀ (ρ : Row) (i : SourceId), (t.row ρ)[i] = { target := 0, current := 0, step := 16 }) ∧
    (∀ j : Fin 32, t.held[j] = 0) ∧
    t.monitor = none ∧ t.debounceTime = 5 ∧ t.queue = [] ∧ t.inFlight = none ∧ t.programStep = 16 ∧ t.talkStep = 128 ∧
    t.assembly = .waiting ∧ t.outFrame = none ∧ t.sync = .seeking ∧ t.gap = none ∧ t.watchCode = 2 ∧ t.clipThreshold = 65535 ∧
    t.silenceThreshold = 265 ∧ t.silenceTime = 10 ∧ t.watchRemaining = 48000 ∧ t.lossMark = false

/-- The end of device reset (R142, R89): the part takes events again, and each key whose line is LOW starts a debounce wait; with
every line HIGH the reset state is the one a reset and its end leave. Until then the part takes nothing in (R142, R158): every command
but a reset, its end and a move of a contact line leaves the state as it is, and a move of a line moves the pin alone. That a row whose
event does not come about leaves the state as it is, is the model's choice (log entry 3), and so is the stored pin (log entry 9). -/
def Obligations.DeviceResetHoldsThePartUntilItsEnd : Prop :=
  ((∀ s : State, s.inReset = true → exec .deviceResetEnd s = .next { s with
       inReset := false
       keys := Vector.ofFn fun n : KeyId => { s.keys[n] with
         debounce := if s.keys[n].line = s.keys[n].accepted then .idle else .waiting s.debounceTime } }) ∧
   (∀ s : State, s.inReset = false → exec .deviceResetEnd s = .next s) ∧
   ∀ s : State, (∀ n : KeyId, s.keys[n].line = .high) → ∃ t, exec .deviceReset s = .next t ∧
     exec .deviceResetEnd t = .next { State.reset with pending := s.pending }) ∧
  ∀ s : State, s.inReset = true →
    (∀ c : Instr, c ≠ .deviceReset → c ≠ .deviceResetEnd → (∀ n l, c ≠ .keyLineChange n l) → exec c s = .next s) ∧
    ∀ (n : KeyId) (l : Level), exec (.keyLineChange n l) s = .next (s.setKey n { s.keys[n] with line := l })

/-! ## Ports and frames -/

/-- Every controller command's frame passes the checks of its port and is read back as that command, every operand at every value
(R164, R165, R170, R171). -/
def Obligations.CommandFramesAreReadBack : Prop :=
  ∀ (c : Instr) (f : CommandFrame), c.wellFormed = true → commandFrame c = some f →
    portCheck f.port (f.code :: BitVec.ofNat 8 f.params.length :: f.params) = .passed f.code f.params ∧
    decodeCommand f.port f.code f.params = some c

/-- Every frame that passes a port's checks is the frame of one well-formed command (R164, R165, R170, R171): the checks of length and
owner let through exactly the commands. -/
def Obligations.PassedFramesAreCommands : Prop :=
  ∀ (p : Port) (frame : List Byte) (code : Byte) (params : List Byte), portCheck p frame = .passed code params →
    frame = code :: BitVec.ofNat 8 params.length :: params ∧
    ∃ c, decodeCommand p code params = some c ∧ c.wellFormed = true ∧
      commandFrame c = some { port := p, code := code, params := params }

/-- The port's checks in the order of R164, with the echoed code, and the code ranges of R165. -/
def Obligations.PortChecksRunInOrder : Prop :=
  ∀ p : Port,
    portCheck p [] = .failed 0 .length ∧
    (∀ c : Byte, portCheck p [c] = .failed c .length) ∧
    ∀ (c n : Byte) (ps : List Byte),
      let owned : Prop :=
        (0x20 ≤ c.toNat ∧ c.toNat ≤ 0x2C) ∨ (0x30 ≤ c.toNat ∧ c.toNat ≤ 0x38) ∨ (0x40 ≤ c.toNat ∧ c.toNat ≤ 0x48)
      let known : Prop := (0x01 ≤ c.toNat ∧ c.toNat ≤ 0x09) ∨ owned
      let mine : Prop := (0x01 ≤ c.toNat ∧ c.toNat ≤ 0x09) ∨
        (p = .console ∧ 0x20 ≤ c.toNat ∧ c.toNat ≤ 0x2C) ∨ (p = .screener ∧ 0x30 ≤ c.toNat ∧ c.toNat ≤ 0x38) ∨
        (p = .talkback ∧ 0x40 ≤ c.toNat ∧ c.toNat ≤ 0x48)
      (250 < n.toNat ∨ ps.length ≠ n.toNat → portCheck p (c :: n :: ps) = .failed c .length) ∧
      (n.toNat ≤ 250 → ps.length = n.toNat →
        (¬ known → portCheck p (c :: n :: ps) = .failed c .unknown) ∧
        (known → ¬ mine → portCheck p (c :: n :: ps) = .failed c .notOwner) ∧
        (mine → paramLengthFits c ps.length = false → portCheck p (c :: n :: ps) = .failed c .length) ∧
        (mine → paramLengthFits c ps.length = true → portCheck p (c :: n :: ps) = .passed c ps))

/-- A COMMAND transaction's arrival (R159, R160, R162): an EMPTY or DONE slot takes the command, a WORKING one keeps its own; a DONE
slot's response and a discarded command are lost with the overrun flag set; a command that fails a port check is answered at once; the
bits of an incomplete last byte are discarded; data-out sends zeros throughout (recorded: log entry 8). -/
def Obligations.CommandTransactionsArriveAtTheSlot : Prop :=
  ∀ (s : State) (p : Port) (frame : List Byte) (tail : List Bool), s.inReset = false → tail.length < 8 →
    let zeros : List Bool := List.replicate (8 + 8 * frame.length + tail.length) false
    let after (overrun : Bool) : State := s.setPort p { s.port p with
      dataOut := zeros
      overrun := overrun
      slot := match portCheck p frame with
        | .passed code params => .working code params
        | .failed echo result => .done echo result [] }
    ((s.port p).slot = .empty → exec (.commandTransaction p ⟨frame, tail⟩) s = .next (after (s.port p).overrun)) ∧
    (∀ code result body, (s.port p).slot = .done code result body → exec (.commandTransaction p ⟨frame, tail⟩) s = .next (after true)) ∧
    ∀ code params, (s.port p).slot = .working code params →
      exec (.commandTransaction p ⟨frame, tail⟩) s = .next (s.setPort p { s.port p with overrun := true, dataOut := zeros })

/-- A controller command given to a port that does not work it is its COMMAND transaction and then its completion (log entry 4); a
port that works another command discards it with overrun (R160). -/
def Obligations.ACommandArrivesAndThenCompletes : Prop :=
  ∀ (s : State) (c : Instr) (f : CommandFrame), s.inReset = false → c.wellFormed = true → commandFrame c = some f →
    (∀ code params, (s.port f.port).slot = .working code params → (code, params) ≠ (f.code, f.params) →
      exec c s = .next (s.setPort f.port { s.port f.port with
        overrun := true, dataOut := List.replicate (24 + 8 * f.params.length) false })) ∧
    ((∀ code params, (s.port f.port).slot ≠ .working code params) →
      ∃ t, exec (.commandTransaction f.port ⟨f.code :: BitVec.ofNat 8 f.params.length :: f.params, []⟩) s = .next t ∧
        t.Holds f.port f.code f.params ∧ exec c s = exec c t)

/-- FETCH sends zeros with its direction byte, then the response frame of the slot's state, then zeros, most significant bits first, and
empties a DONE slot, its overrun flag cleared (R158, R161, R169; recorded: log entry 8). A transaction of fewer than eight bits, with
another direction byte, or abandoned at a device reset has no effect (R158). -/
def Obligations.FetchSendsTheResponseFrame : Prop :=
  (∀ b : Byte, byteBits b = [7, 6, 5, 4, 3, 2, 1, 0].map b.getLsbD) ∧
  (∀ (s : State) (p : Port) (dataIn : List Byte) (tail : List Bool), s.inReset = false → tail.length < 8 →
    let n := 8 * dataIn.length + tail.length
    let sent (frame : List Byte) : PortState := { s.port p with
      dataOut := List.replicate 8 false ++ (frame.flatMap byteBits ++ List.replicate n false).take n }
    let flag : Byte := if (s.port p).overrun then 1 else 0
    ((s.port p).slot = .empty → exec (.fetch p ⟨dataIn, tail⟩) s = .next (s.setPort p (sent [0, flag, 0, 0, 0, 0]))) ∧
    (∀ code params, (s.port p).slot = .working code params →
      exec (.fetch p ⟨dataIn, tail⟩) s = .next (s.setPort p (sent [1, flag, code, 0, 0, 0]))) ∧
    ∀ code result body, (s.port p).slot = .done code result body →
      exec (.fetch p ⟨dataIn, tail⟩) s = .next (s.setPort p { sent ([2, flag, code, result.byte] ++ count16 body.length ++ body) with
        slot := .empty, overrun := false })) ∧
  ∀ (s : State) (p : Port) (bits : List Bool) (abandoned : Bool),
    (abandoned = true ∨ bits.length < 8 ∨ ∃ d rest, bits = byteBits d ++ rest ∧ d ≠ 0x5A ∧ d ≠ 0xA5) →
    exec (.invalidTransaction p ⟨bits, abandoned⟩) s = .next s

/-- A controller command changes tables, queue, notices and settings only: the mixing path (current values, held samples, lanes,
sync), the clip counts, the watch timer, the composer's row in flight and the contact lines are as before, and so is all of another
port but its notices (R119: no command writes a current value; R160, R175). -/
def Obligations.ControllerCommandsLeaveTheSignalPath : Prop :=
  ∀ (c : Instr) (f : CommandFrame) (s t : State), commandFrame c = some f → exec c s = .next t →
    t = { s with
      ports := t.ports, sources := t.sources, airFeed := t.airFeed, airDelay := t.airDelay, returns := t.returns,
      monitor := t.monitor, conferences := t.conferences, arbiter := t.arbiter, keys := t.keys, debounceTime := t.debounceTime,
      queue := t.queue, programStep := t.programStep, talkStep := t.talkStep, watchCode := t.watchCode,
      clipThreshold := t.clipThreshold, silenceThreshold := t.silenceThreshold, silenceTime := t.silenceTime } ∧
    (∀ n : KeyId, t.keys[n].line = s.keys[n].line ∧ t.keys[n].accepted = s.keys[n].accepted ∧
      t.keys[n].debounce = s.keys[n].debounce) ∧
    ∀ p : Port, p ≠ f.port → t.port p = { s.port p with notices := (t.port p).notices }

/-- A refused command leaves every table, timer, queue and notice map as it was, except the refusal counts that a TALK raises (R166).
-/
def Obligations.RefusedCommandsChangeNothingElse : Prop :=
  ∀ (c : Instr) (f : CommandFrame) (s : State), commandFrame c = some f → s.Holds f.port f.code f.params →
    ∃ (t : State) (a : Answer), exec c s = .next (t.answer f.port f.code a) ∧
      (a.result ≠ .ok →
        (∀ r : ReturnId, t.returns[r] = { s.returns[r] with refusals := t.returns[r].refusals }) ∧
        t = { s with returns := t.returns } ∧
        (f.code ≠ 0x40 → t = s))

/-! ## Reads -/

/-- The read commands (R41, R55, R98, R117, R157, R167, R168, R170): each answers its report, of the length R170 gives, or INVALID for
an argument out of range, and changes nothing. What the reports hold is in ReadsShowEveryField. The member count's two bytes are DEDUCED
(log entry 11). -/
def Obligations.ReadsReportAndChangeNothing : Prop :=
  (∀ (s : State) (p : Port) (b row : Byte),
     (∀ i : SourceId, Names b i → Completes (.readSource p b) p 0x01 [b] s s (ok (sourceBody s i))) ∧
     (32 ≤ b.toNat → Completes (.readSource p b) p 0x01 [b] s s (refuse .invalid)) ∧
     (∀ r : ReturnId, Names b r → Completes (.readReturn p b) p 0x02 [b] s s (ok (returnBody s r))) ∧
     (24 ≤ b.toNat → Completes (.readReturn p b) p 0x02 [b] s s (refuse .invalid)) ∧
     (∀ k : ConferenceId, Names b k → Completes (.readConference p b) p 0x03 [b] s s (ok (conferenceBody s k))) ∧
     (4 ≤ b.toNat → Completes (.readConference p b) p 0x03 [b] s s (refuse .invalid)) ∧
     Completes (.readStatus p) p 0x04 [] s s (ok (statusBody s p)) ∧
     (∀ n : KeyId, Names b n → Completes (.readKey p b) p 0x05 [b] s s (ok (keyBody s n))) ∧
     (8 ≤ b.toNat → Completes (.readKey p b) p 0x05 [b] s s (refuse .invalid)) ∧
     (∀ (r : ReturnId) (i : SourceId), Names row r → Names b i →
       Completes (.readCell p row b) p 0x08 [row, b] s s (ok (cellBody s (.ret r) i))) ∧
     (∀ i : SourceId, row = 24 → Names b i → Completes (.readCell p row b) p 0x08 [row, b] s s (ok (cellBody s .program i))) ∧
     (25 ≤ row.toNat ∨ 32 ≤ b.toNat → Completes (.readCell p row b) p 0x08 [row, b] s s (refuse .invalid)) ∧
     Completes (.readWatch p) p 0x09 [] s s (ok (watchBody s))) ∧
  ∀ s : State,
    (∀ i : SourceId, (sourceBody s i).length = 17) ∧ (∀ p : Port, (statusBody s p).length = 13) ∧
    (∀ n : KeyId, (keyBody s n).length = 21) ∧ (∀ (ρ : Row) (i : SourceId), (cellBody s ρ i).length = 9) ∧
    (watchBody s).length = 259 ∧
    ∀ k : ConferenceId, (conferenceBody s k).length = 7 + 2 * s.conferences[k].members.length

/-- No field is lost in a report (R1, R23, R42, R89, R117, R143, R157, R167: every field is returned): in lawful states equal bodies come
from equal records; and the base feed, the demotion and the row state are those of R37, R38, R41 and R115, encoded as R169 says. That they
stand in bytes 16 to 18 of READ RETURN rests on the widths of its refusal count (two bytes) and list count (one), which are DEDUCED (log
entry 11). -/
def Obligations.ReadsShowEveryField : Prop :=
  (∀ s t : State, s.Lawful → s.RangesLawful → s.QueueLawful → t.Lawful → t.RangesLawful → t.QueueLawful →
    (∀ i : SourceId, sourceBody s i = sourceBody t i → s.sources[i] = t.sources[i]) ∧
    (∀ r : ReturnId, returnBody s r = returnBody t r → s.returns[r] = t.returns[r] ∧ s.arbiter[r] = t.arbiter[r]) ∧
    (∀ k : ConferenceId, conferenceBody s k = conferenceBody t k → s.conferences[k] = t.conferences[k]) ∧
    (∀ p : Port, statusBody s p = statusBody t p →
      s.sync = t.sync ∧ s.queue.length = t.queue.length ∧ s.inFlight.map (fun f => f.row) = t.inFlight.map (fun f => f.row) ∧
      (s.port p).overrun = (t.port p).overrun ∧ s.programStep = t.programStep ∧ s.talkStep = t.talkStep ∧
      s.airFeed = t.airFeed ∧ s.airDelay = t.airDelay ∧ s.debounceTime = t.debounceTime ∧ s.monitor = t.monitor) ∧
    (∀ n : KeyId, keyBody s n = keyBody t n →
      s.keys[n].binding = t.keys[n].binding ∧ s.keys[n].pressLevel = t.keys[n].pressLevel ∧ s.keys[n].keyMode = t.keys[n].keyMode ∧
      s.keys[n].accepted = t.keys[n].accepted ∧ (s.keys[n].debounce = .idle ↔ t.keys[n].debounce = .idle) ∧
      s.keys[n].pressCounted = t.keys[n].pressCounted ∧ s.keys[n].lastOutcome.bytes = t.keys[n].lastOutcome.bytes) ∧
    (∀ (ρ : Row) (i : SourceId), cellBody s ρ i = cellBody t ρ i → (s.row ρ)[i] = (t.row ρ)[i]) ∧
    (watchBody s = watchBody t →
      s.watchCode = t.watchCode ∧ s.clipThreshold = t.clipThreshold ∧ s.silenceThreshold = t.silenceThreshold ∧
      s.silenceTime = t.silenceTime ∧ s.watchRemaining = t.watchRemaining ∧ s.lossMark = t.lossMark ∧ s.clips = t.clips ∧
      ∀ i : SourceId, s.sources[i].silent = t.sources[i].silent ∧ s.sources[i].silenceCount = t.sources[i].silenceCount)) ∧
  ∀ s : State,
    (∀ r : ReturnId,
      let base (b demoted : Byte) : Prop := (returnBody s r)[16]? = some b ∧ (returnBody s r)[17]? = some demoted
      (AtStage s r .vacant → base 3 0) ∧
      (¬ AtStage s r .vacant →
        (Wants s r .program → base 0 0) ∧ (Wants s r .air → Demoted s r → base 0 1) ∧
        (Wants s r .air → ¬ Demoted s r → base 1 0) ∧ (Wants s r .silent → base 2 0)) ∧
      (returnBody s r)[18]? = some (rowState s (.ret r))) ∧
    (∀ (ρ : Row) (i : SourceId), (cellBody s ρ i)[8]? = some (rowState s ρ)) ∧
    ∀ n : KeyId, (keyBody s n)[10]? = some (if s.keys[n].accepted = s.keys[n].pressLevel then 1 else 0)

/-! ## Codes -/

/-- The tables of codes: result codes (R166), enumerated values (R169), talk outcomes (R87), the outcomes of READ KEY (R170), and the port
and bit of each notice kind with each port's kind set (R172, R174). -/
def Obligations.CodesAndPlacesAreThoseOfTheTables : Prop :=
  [ResultCode.ok, .unknown, .length, .notOwner, .invalid, .state, .notReady, .inUse, .full, .duplicate, .notFound, .noTarget, .noListener,
      .refused].map ResultCode.byte = [0x00, 0x01, 0x02, 0x03, 0x04, 0x05, 0x06, 0x07, 0x08, 0x09, 0x0A, 0x0B, 0x0C, 0x0D] ∧
  ([Kind.unused, .caller, .codec, .studio, .playout, .talkback, .air].map Kind.byte = [0, 1, 2, 3, 4, 5, 6] ∧
    [Stage.vacant, .screen, .hold, .ready, .air].map Stage.byte = [0, 1, 2, 3, 4] ∧
    [some Feed.program, some .air, some .silent, none].map baseByte = [0, 1, 2, 3] ∧
    [Feed.program, .air, .silent].map Feed.byte = [0, 1, 2] ∧
    [Mode.cut, .dip].map Mode.byte = [0, 1] ∧ [DeafMode.normal, .deaf, .refuse].map DeafMode.byte = [0, 1, 2] ∧
    [Level.low, .high].map levelByte = [0, 1] ∧ [KeyMode.momentary, .latch].map KeyMode.byte = [0, 1] ∧
    [SyncState.seeking, .locked, .lost].map SyncState.byte = [0, 1, 2] ∧ [false, true].map flagByte = [0, 1]) ∧
  ((∀ r : ReturnId, (Target.ret r).byte.toNat = r.val ∧ (rowByte (.ret r)).toNat = r.val) ∧ (rowByte .program).toNat = 24 ∧
    (∀ t : TagId, (Target.tag t).byte.toNat = 0x80 + (t.val + 1) ∧ (tagPositionByte (some t)).toNat = t.val + 1 ∧
      (Via.tag t).byte.toNat = t.val + 1) ∧
    tagPositionByte none = 0 ∧ Via.direct.byte = 0 ∧ (∀ n : KeyId, (Origin.key n).byte.toNat = n.val) ∧ Origin.port.byte = 0x80 ∧
    (∀ i : SourceId, (indexByte (some i)).toNat = i.val) ∧ indexByte (none : Option SourceId) = 0xFF) ∧
  ((∀ p d, (TalkOutcome.active p d).byte = 0x00) ∧ (∀ n, (TalkOutcome.queued n).byte = 0x80) ∧
    ∀ c, (TalkOutcome.refused c).byte = c.byte) ∧
  (KeyOutcome.none.bytes = [0, 0, 0, 0, 0, 0, 0, 0] ∧ KeyOutcome.active.bytes = [1, 0, 0, 0, 0, 0, 0, 0] ∧
    (∀ n, (KeyOutcome.queued n).bytes = [2, byteOf n, 0, 0, 0, 0, 0, 0]) ∧
    (∀ n, (KeyOutcome.released n).bytes = [4, byteOf n, 0, 0, 0, 0, 0, 0]) ∧ KeyOutcome.notFound.bytes = [5, 0, 0, 0, 0, 0, 0, 0] ∧
    ∀ c : TalkCounts,
      (KeyOutcome.talked c).bytes = [6, 0] ++ count16 c.active ++ count16 c.queued ++ count16 c.refused ∧
      ∀ r : ResultCode, (KeyOutcome.refused r c).bytes = [3, r.byte] ++ count16 c.active ++ count16 c.queued ++ count16 c.refused) ∧
  ([NoticeKind.forcedDrop, .readyMarked, .silenceChange, .clipReport, .clipThreshold].map (fun k => (k.port, k.bit)) =
      [(Port.console, 0), (.console, 1), (.console, 2), (.console, 3), (.console, 4)] ∧
    [NoticeKind.stageChanged, .conferenceExit].map (fun k => (k.port, k.bit)) = [(Port.screener, 0), (.screener, 1)] ∧
    [NoticeKind.interruptStarted, .holdExpired, .requestDisplaced, .listenerGone, .keyEvent].map (fun k => (k.port, k.bit)) =
      [(Port.talkback, 0), (.talkback, 1), (.talkback, 2), (.talkback, 3), (.talkback, 4)] ∧
    [Port.console, .screener, .talkback].map allKinds = [0x9F, 0x83, 0x9F])

/-! ## Notices -/

/-- A raise adds one index to one kind's set at its port and touches nothing else (R174). The kind set of the pending kinds (R174,
R172) and the attention line (R176): asserted exactly when some pending kind is enabled. -/
def Obligations.RaisesAndAttentionLines : Prop :=
  (∀ (s : State) (k : NoticeKind) (i : Nat),
     s.raise k i = { s with ports := (s.raise k i).ports } ∧
     (∀ p : Port, p ≠ k.port → (s.raise k i).port p = s.port p) ∧
     (s.raise k i).port k.port = { s.port k.port with
       notices := { (s.port k.port).notices with sets := ((s.raise k i).port k.port).notices.sets } } ∧
     (∀ b : Fin 5, b ≠ k.bit → ((s.raise k i).port k.port).notices.sets[b] = (s.port k.port).notices.sets[b]) ∧
     ∀ j : Nat, hasIndex ((s.raise k i).port k.port).notices.sets[k.bit] j =
       (hasIndex (s.port k.port).notices.sets[k.bit] j || (decide (j = i) && decide (i < 32)))) ∧
  (∀ m : NoticeMap,
    (∀ b : Fin 5, (pendingKinds m).getLsbD b.val = decide (m.sets[b] ≠ 0)) ∧ (pendingKinds m).getLsbD 7 = m.sync ∧
    (pendingKinds m).getLsbD 5 = false ∧ (pendingKinds m).getLsbD 6 = false) ∧
  ∀ (s : State) (p : Port), s.attention p = true ↔
    (∃ b : Fin 5, (s.port p).notices.sets[b] ≠ 0 ∧ (s.port p).mask.getLsbD b.val = true) ∨
      ((s.port p).notices.sync = true ∧ (s.port p).mask.getLsbD 7 = true)

/-- ACKNOWLEDGE (R177): the whole map goes into the body, each named kind is emptied, the rest stays. SET NOTICE MASK (R175): the mask
of the taking port is replaced whole. A kind set with a bit that names no kind of the port is refused INVALID. -/
def Obligations.AcknowledgeAndSetNoticeMaskActOnTheirPort : Prop :=
  (∀ (s : State) (p : Port) (kinds : Byte),
     let q := s.port p
     let named : Byte := if p = .screener then 0x83 else 0x9F
     let sets (n : Nat) : List Byte := (q.notices.sets.toList.take n).flatMap be32
     (kinds &&& named = kinds →
       Completes (.acknowledge p kinds) p 0x06 [kinds] s
         (s.setPort p { q with notices :=
           { sets := Vector.ofFn fun b : Fin 5 => if kinds.getLsbD b.val then 0 else q.notices.sets[b]
             sync := if kinds.getLsbD 7 then false else q.notices.sync } })
         (ok (pendingKinds q.notices :: sets (if p = .screener then 2 else 5)))) ∧
     (kinds &&& named ≠ kinds → Completes (.acknowledge p kinds) p 0x06 [kinds] s s (refuse .invalid))) ∧
  ∀ (s : State) (p : Port) (kinds : Byte),
    let named : Byte := if p = .screener then 0x83 else 0x9F
    (kinds &&& named = kinds →
      Completes (.setNoticeMask p kinds) p 0x07 [kinds] s (s.setPort p { s.port p with mask := kinds }) (ok [kinds])) ∧
    (kinds &&& named ≠ kinds → Completes (.setNoticeMask p kinds) p 0x07 [kinds] s s (refuse .invalid))

/-! ## Sources and settings -/

/-- SET SOURCE KIND (R4, R5): a free source takes the kind with its fields cleared, a source in use is refused IN USE, an argument out
of range INVALID; no row is marked. -/
def Obligations.SetSourceKindNeedsAFreeSource : Prop :=
  ∀ (s : State) (b kb : Byte),
    (32 ≤ b.toNat ∨ 7 ≤ kb.toNat → Completes (.setSourceKind b kb) .console 0x20 [b, kb] s s (refuse .invalid)) ∧
    ∀ (i : SourceId) (k : Kind), Names b i → kb = k.byte →
      (Free s i → Completes (.setSourceKind b kb) .console 0x20 [b, kb] s
        { s with sources := s.sources.set i { s.sources[i] with
            kind := k, fader := 0, on := false, talkLevel := 16384, silent := false, silenceCount := 0 } } (ok [])) ∧
      (¬ Free s i → Completes (.setSourceKind b kb) .console 0x20 [b, kb] s s (refuse .inUse))

/-- SET FADERS (R7) and SET SOURCE ON (R8): the first failing entry refuses the whole list with its position; else every entry is
written in one event and every row is marked, none for an empty list. -/
def Obligations.FaderAndOnListsWriteAllOrNothing : Prop :=
  (∀ (s : State) (es : List (Byte × Coeff)),
     let params := es.flatMap fun e => [e.1, e.2.extractLsb' 8 8, e.2.extractLsb' 0 8]
     (∀ n, FirstFailure (FaderFails s es) n →
       Completes (.setFaders es) .console 0x21 params s s { result := .invalid, body := [byteOf n] }) ∧
     ((∀ n, ¬ FaderFails s es n) →
       Completes (.setFaders es) .console 0x21 params s { s with sources := afterFaders s es, queue := afterList s es } (ok []))) ∧
  ∀ (s : State) (es : List (Byte × Byte)),
    let params := es.flatMap fun e => [e.1, e.2]
    (∀ n, FirstFailure (OnFails s es) n →
      Completes (.setSourceOn es) .console 0x22 params s s { result := .invalid, body := [byteOf n] }) ∧
    ((∀ n, ¬ OnFails s es n) →
      Completes (.setSourceOn es) .console 0x22 params s { s with sources := afterOn s es, queue := afterList s es } (ok []))

/-- SET AIR FEED (R18). -/
def Obligations.SetAirFeedMarksEveryReturnRow : Prop :=
  ∀ (s : State) (b : Byte),
    (b = 0xFF → Completes (.setAirFeed b) .console 0x28 [b] s
      { s with airFeed := none, queue := joinQueue s.queue everyReturnRow false } (ok [])) ∧
    (∀ i : SourceId, Names b i → s.sources[i].kind = .air → Completes (.setAirFeed b) .console 0x28 [b] s
      { s with airFeed := some i, queue := joinQueue s.queue everyReturnRow false } (ok [])) ∧
    ((b ≠ 0xFF ∧ ∀ i : SourceId, Names b i → s.sources[i].kind ≠ .air) →
      Completes (.setAirFeed b) .console 0x28 [b] s s (refuse .invalid))

/-- The settings that are clamped, never refused, and answered as stored (R19, R91, R131, R155); none marks a row. -/
def Obligations.SettingsAreClamped : Prop :=
  ∀ (s : State) (d p t c : BitVec 16) (w st db : Byte) (th : BitVec 24),
    let delay := min d.toNat 40000
    let step (x : BitVec 16) : Nat := if x.toNat = 0 then 1 else min x.toNat 4096
    let threshold := if c.toNat = 0 then 1 else c.toNat
    let time := if st.toNat = 0 then 1 else min st.toNat 60
    let wait := if db.toNat = 0 then 1 else min db.toNat 32
    Completes (.setAirDelay d) .console 0x29 (be16 d) s { s with airDelay := delay } (ok (count16 delay)) ∧
    Completes (.setRampSteps p t) .console 0x2A (be16 p ++ be16 t) s { s with programStep := step p, talkStep := step t }
      (ok (count16 (step p) ++ count16 (step t))) ∧
    Completes (.setWatch w c th st) .console 0x2B (w :: (be16 c ++ be24 th ++ [st])) s
      { s with
        watchCode := min w.toNat 7, clipThreshold := threshold, silenceThreshold := min th.toNat 8388607, silenceTime := time }
      (ok (byteOf (min w.toNat 7) :: (count16 threshold ++ count24 (min th.toNat 8388607) ++ [byteOf time]))) ∧
    Completes (.setDebounce db) .talkback 0x48 [db] s { s with debounceTime := wait } (ok [byteOf wait])

/-! ## Stages -/

/-- The stage table's answers that change nothing (R9): INVALID for what is no caller or codec, STATE, NOT READY, and OK for a stage
already reached. That TAKE from SCREEN is NOT READY follows R9 and R13 against R28's fourth pair (log entry 20). -/
def Obligations.StageTableRefusals : Prop :=
  ∀ (s : State) (b : Byte),
    (NoRemote s b → ∀ (p : Port) (code : Byte) (c : Instr),
      (p, code, c) ∈ [(Port.screener, (0x30 : Byte), Instr.attach b), (.screener, 0x31, .detach b), (.screener, 0x32, .screen b),
        (.screener, 0x33, .park b), (.screener, 0x34, .markReady b), (.console, 0x23, .take b), (.console, 0x24, .drop b)] →
      Completes c p code [b] s s (refuse .invalid)) ∧
    ∀ i : SourceId, Names b i → Remote s.sources[i] →
      let stage := s.sources[i].stage
      (stage ≠ .vacant → Completes (.attach b) .screener 0x30 [b] s s (refuse .state)) ∧
      (stage = .vacant → Completes (.detach b) .screener 0x31 [b] s s (refuse .state)) ∧
      (stage = .vacant ∨ stage = .air → Completes (.screen b) .screener 0x32 [b] s s (refuse .state)) ∧
      (stage = .screen → Completes (.screen b) .screener 0x32 [b] s s (ok [])) ∧
      (stage = .vacant ∨ stage = .air → Completes (.park b) .screener 0x33 [b] s s (refuse .state)) ∧
      (stage = .hold → Completes (.park b) .screener 0x33 [b] s s (ok [])) ∧
      (stage = .vacant ∨ stage = .air → Completes (.markReady b) .screener 0x34 [b] s s (refuse .state)) ∧
      (stage = .ready → Completes (.markReady b) .screener 0x34 [b] s s (ok [])) ∧
      (stage = .vacant → Completes (.take b) .console 0x23 [b] s s (refuse .state)) ∧
      (stage = .screen ∨ stage = .hold → Completes (.take b) .console 0x23 [b] s s (refuse .notReady)) ∧
      (stage = .air → Completes (.take b) .console 0x23 [b] s s (ok [])) ∧
      (stage ≠ .air → Completes (.drop b) .console 0x24 [b] s s (refuse .state))

/-- ATTACH, SCREEN, PARK and MARK READY where they move the stage (R10 to R12): the row of the attached return is marked without talk
cause, MARK READY raises READY MARKED, and nothing else changes. -/
def Obligations.StageMovesMarkTheAttachedRow : Prop :=
  ∀ (s : State) (b : Byte) (i : SourceId), Names b i → Remote s.sources[i] →
    let stage := s.sources[i].stage
    (stage = .vacant → Completes (.attach b) .screener 0x30 [b] s (afterMove s i .screen) (ok [])) ∧
    (stage = .hold ∨ stage = .ready → Completes (.screen b) .screener 0x32 [b] s (afterMove s i .screen) (ok [])) ∧
    (stage = .screen ∨ stage = .ready → Completes (.park b) .screener 0x33 [b] s (afterMove s i .hold) (ok [])) ∧
    (stage = .screen ∨ stage = .hold →
      Completes (.markReady b) .screener 0x34 [b] s ((afterMove s i .ready).raise .readyMarked i.val) (ok []))

/-- TAKE of a READY source (R13): on air with its fader as contribution, its guard cancelled, out of its conference with CONFERENCE
EXIT, STAGE CHANGED raised, every row marked; NOT READY from SCREEN or HOLD, STATE from VACANT. DROP (R14): to HOLD with contribution 0,
a guard of 48 frames for each millisecond of the air delay, STAGE CHANGED raised, every row marked; from any other stage refused
STATE. R28's fourth pair has TAKE move a source in SCREEN to AIR; that R13 is followed there is the model's choice (log entry 20). -/
def Obligations.TakeAndDropMoveSourcesOnAndOffAir : Prop :=
  (∀ (s : State) (b : Byte) (i : SourceId), Names b i → Remote s.sources[i] → s.sources[i].stage = .ready →
     Completes (.take b) .console 0x23 [b] s (afterTake s i) (ok []) ∧
     (afterTake s i).sources[i].contribution = s.sources[i].fader) ∧
  (∀ (s : State) (b : Byte) (i : SourceId), Names b i → Remote s.sources[i] →
     (s.sources[i].stage = .screen ∨ s.sources[i].stage = .hold → Completes (.take b) .console 0x23 [b] s s (refuse .notReady)) ∧
     (s.sources[i].stage = .vacant → Completes (.take b) .console 0x23 [b] s s (refuse .state))) ∧
  ∀ (s : State) (b : Byte) (i : SourceId), Names b i → Remote s.sources[i] →
    (s.sources[i].stage = .air →
      Completes (.drop b) .console 0x24 [b] s (afterDrop s i) (ok []) ∧ (afterDrop s i).sources[i].contribution = 0) ∧
    (s.sources[i].stage ≠ .air → Completes (.drop b) .console 0x24 [b] s s (refuse .state))

/-- DETACH from SCREEN, HOLD or READY ends the call (R15); from AIR it is the forced drop (R16). -/
def Obligations.DetachEndsACallOrForcesADrop : Prop :=
  (∀ (s : State) (b : Byte) (i : SourceId), Names b i → Remote s.sources[i] →
     (s.sources[i].stage = .screen ∨ s.sources[i].stage = .hold ∨ s.sources[i].stage = .ready) →
     Completes (.detach b) .screener 0x31 [b] s (afterCallEnd s i) (ok [])) ∧
  ∀ (s : State) (b : Byte) (i : SourceId), Names b i → Remote s.sources[i] → s.sources[i].stage = .air →
    Completes (.detach b) .screener 0x31 [b] s (afterForcedDrop s i) (ok []) ∧
    (afterForcedDrop s i).sources[i].contribution = 0

/-- The expiry of an air-exit guard (R22): the guard stops and every return row whose minus set holds the source is marked, without
talk cause and with no notice. The expiry of a hold timer (R71): the next request is promoted, with HOLD EXPIRED and INTERRUPT
STARTED. Each comes about where a frame arrival has brought the count to 0 (log entries 3 and 6). -/
def Obligations.GuardAndHoldExpiriesAct : Prop :=
  (∀ (s : State) (i : SourceId), s.inReset = false →
     (s.sources[i].guard = some 0 → exec (.airExitGuardExpiry i) s = .next { s with
       sources := s.sources.set i { s.sources[i] with guard := none }
       queue := joinQueue s.queue (fun ρ => match ρ with
         | .program => false
         | .ret r => s.returns[r].minusList.contains i || decide (s.returns[r].attached = some i)) false }) ∧
     (s.sources[i].guard ≠ some 0 → exec (.airExitGuardExpiry i) s = .next s)) ∧
  ∀ (s : State) (r : ReturnId), s.inReset = false →
    (∀ x, s.arbiter[r].active = some x → x.remaining = 0 → exec (.holdExpiry r) s = .next (afterHoldExpiry s r)) ∧
    ((∀ x, s.arbiter[r].active = some x → x.remaining ≠ 0) → exec (.holdExpiry r) s = .next s)

/-! ## Conferences -/

/-- JOIN (R46 to R48): its checks in order, a taken join, a move. -/
def Obligations.JoinAppendsOrMovesAMember : Prop :=
  ∀ (s : State) (b kb : Byte),
    let join (t : State) (a : Answer) : Prop := Completes (.join b kb) .screener 0x36 [b, kb] s t a
    (32 ≤ b.toNat ∨ 4 ≤ kb.toNat → join s (refuse .invalid)) ∧
    ∀ (i : SourceId) (k : ConferenceId), Names b i → Names kb k →
      let members := s.conferences[k].members
      let absent : Prop := Remote s.sources[i] ∧ (s.sources[i].stage = .vacant ∨ s.sources[i].stage = .air)
      (¬ Joinable s.sources[i] → join s (refuse .invalid)) ∧
      (Joinable s.sources[i] → absent → join s (refuse .state)) ∧
      (Joinable s.sources[i] → ¬ absent →
        (i ∈ members → join s (ok [byteOf k.val])) ∧
        (i ∉ members → 8 ≤ members.length → join s (refuse .full)) ∧
        (i ∉ members → members.length < 8 → join (afterJoin s i k) (ok [indexByte s.sources[i].conference])))

/-- LEAVE and SET CONFERENCE (R45, R49, R50). -/
def Obligations.LeaveAndSetConferenceMarkTheMembersRows : Prop :=
  ∀ (s : State) (b : Byte) (g bed : Coeff),
    (32 ≤ b.toNat → Completes (.leave b) .screener 0x37 [b] s s (refuse .invalid)) ∧
    (∀ i : SourceId, Names b i →
      (s.sources[i].conference = none → Completes (.leave b) .screener 0x37 [b] s s (refuse .notFound)) ∧
      ∀ k, s.sources[i].conference = some k → Completes (.leave b) .screener 0x37 [b] s (afterLeave s i) (ok [byteOf k.val])) ∧
    (4 ≤ b.toNat → Completes (.setConference b g bed) .screener 0x38 (b :: (be16 g ++ be16 bed)) s s (refuse .invalid)) ∧
    ∀ k : ConferenceId, Names b k → Completes (.setConference b g bed) .screener 0x38 (b :: (be16 g ++ be16 bed)) s
      { s with
        conferences := s.conferences.set k { s.conferences[k] with gain := g, bed := bed }
        queue := joinQueue s.queue (attachedIn s s.conferences[k].members) false } (ok [])

/-! ## Returns -/

/-- SET RETURN (R32, R33): all entries or none, the ceiling clamped, the named rows marked. -/
def Obligations.SetReturnWritesAllOrNothing : Prop :=
  ∀ (s : State) (es : List (Byte × Coeff × BitVec 24 × Byte)),
    let params := es.flatMap fun e => e.1 :: (be16 e.2.1 ++ be24 e.2.2.1 ++ [e.2.2.2])
    (∀ n, FirstFailure (ReturnFails es) n →
      Completes (.setReturn es) .console 0x25 params s s { result := .invalid, body := [byteOf n] }) ∧
    ((∀ n, ¬ ReturnFails es n) → Completes (.setReturn es) .console 0x25 params s (afterSetReturn s es) (ok []))

/-- SET MINUS LIST (R29, R30): the list replaced whole in the order given and the row marked, or the first failing entry's refusal.
The body of the refusal of a return out of range is the model's (log entry 12). -/
def Obligations.SetMinusListReplacesTheList : Prop :=
  ∀ (s : State) (rb : Byte) (bs : List Byte),
    let minus (t : State) (a : Answer) : Prop := Completes (.setMinusList rb bs) .console 0x26 (rb :: bs) s t a
    (24 ≤ rb.toNat → minus s (refuse .invalid)) ∧
    ∀ r : ReturnId, Names rb r →
      (4 < bs.length → minus s { result := .invalid, body := [4] }) ∧
      (bs.length ≤ 4 →
        (∀ n, FirstFailure (fun m => MinusInvalid s bs m ∨ MinusRepeats bs m) n →
          (MinusInvalid s bs n → minus s { result := .invalid, body := [byteOf n] }) ∧
          (¬ MinusInvalid s bs n → minus s { result := .duplicate, body := [byteOf n] })) ∧
        ∀ l : List SourceId, bs = l.map (fun i => byteOf i.val) → l.Nodup → (∀ i ∈ l, Joinable s.sources[i]) →
          minus (afterReturn s r { s.returns[r] with minusList := l }) (ok []))

/-- CLEAR RETURN, SET DIP LEVEL and SELECT MONITOR (R35, R78, R40). -/
def Obligations.ReturnSettingsAreWritten : Prop :=
  ∀ (s : State) (b : Byte) (l : Coeff),
    (24 ≤ b.toNat → Completes (.clearReturn b) .console 0x27 [b] s s (refuse .invalid) ∧
      Completes (.setDipLevel b l) .talkback 0x43 (b :: be16 l) s s (refuse .invalid) ∧
      (b ≠ 0xFF → Completes (.selectMonitor b) .console 0x2C [b] s s (refuse .invalid))) ∧
    (b = 0xFF → Completes (.selectMonitor b) .console 0x2C [b] s { s with monitor := none } (ok [])) ∧
    ∀ r : ReturnId, Names b r →
      Completes (.clearReturn b) .console 0x27 [b] s
        (afterReturn s r { s.returns[r] with level := 16384, ceiling := 8388607, defaultFeed := .silent, minusList := [] }) (ok []) ∧
      Completes (.setDipLevel b l) .talkback 0x43 (b :: be16 l) s (afterReturn s r { s.returns[r] with dipLevel := l }) (ok []) ∧
      Completes (.selectMonitor b) .console 0x2C [b] s { s with monitor := some r } (ok [])

/-- ATTACH RETURN (R25 to R27): its checks in order, no change for the value it has, and a new value with the requests of a VACANT
source's return removed. -/
def Obligations.AttachReturnLinksASource : Prop :=
  ∀ (s : State) (rb b : Byte),
    let link (t : State) (a : Answer) : Prop := Completes (.attachReturn rb b) .screener 0x35 [rb, b] s t a
    (24 ≤ rb.toNat → link s (refuse .invalid)) ∧
    ∀ r : ReturnId, Names rb r →
      let prior := s.returns[r].attached
      (b ≠ 0xFF → NoRemote s b → link s (refuse .invalid)) ∧
      (b = 0xFF → link (if prior = none then s else afterAttachReturn s r none) (ok [indexByte prior])) ∧
      ∀ i : SourceId, Names b i → Remote s.sources[i] →
        ((∃ q : ReturnId, q ≠ r ∧ s.returns[q].attached = some i) → link s (refuse .inUse)) ∧
        ((∀ q : ReturnId, q ≠ r → s.returns[q].attached ≠ some i) →
          link (if prior = some i then s else afterAttachReturn s r (some i)) (ok [indexByte prior]))

/-! ## Talkback -/

/-- The decision of a request on one return by the first case of R59 that applies, with preemption and discard (R60 to R63): the
discarded request is the latest of lowest priority. -/
def Obligations.RequestsAreDecidedByTheFirstCase : Prop :=
  ∀ (a : Arbitration) (q : Request),
    a.decide true q = (.refused .noListener, a) ∧
    (a.HasRequestOf q.originator → a.decide false q = (.refused .duplicate, a)) ∧
    (¬ a.HasRequestOf q.originator →
      (a.active = none → a.decide false q = (.active none none, { a with active := some (fresh q) })) ∧
      ∀ x, a.active = some x →
        let old := x.request.originator
        let list := x.request :: a.waiting
        (x.request.priority < q.priority →
          (a.waiting.length < 3 → a.decide false q = (.active (some old) none, { active := some (fresh q), waiting := list })) ∧
          (3 ≤ a.waiting.length → ∃ n d, list[n]? = some d ∧
            (∀ m e, list[m]? = some e → d.priority ≤ e.priority ∧ (n < m → d.priority < e.priority)) ∧
            a.decide false q =
              (.active (some old) (some d.originator), { active := some (fresh q), waiting := list.eraseIdx n }))) ∧
        (q.priority ≤ x.request.priority →
          (a.waiting.length < 3 →
            a.decide false q = (.queued (a.waiting.length + 1), { a with waiting := a.waiting ++ [q] })) ∧
          (3 ≤ a.waiting.length → a.decide false q = (.refused .full, a))))

/-- The choice of the next request (R69 step 2, R71): the earliest of highest priority, with its own full hold limit; none from an
empty list. The hold limits are those of R70's table. -/
def Obligations.PromotionTakesTheEarliestOfHighestPriority : Prop :=
  promoted [] = { active := none, waiting := [] } ∧
  (∀ list : List Request, list ≠ [] → ∃ n q, list[n]? = some q ∧
    (∀ m e, list[m]? = some e → e.priority ≤ q.priority ∧ (m < n → e.priority < q.priority)) ∧
    promoted list = { active := some (fresh q), waiting := list.eraseIdx n }) ∧
  (List.finRange 8).map limit = [96000, 192000, 384000, 768000, 1536000, 3072000, 6144000, 12288000]

/-- TALK, direct form (R58 to R65): the arguments, then the decision, the row marked with talk cause where the request becomes active,
REQUEST DISPLACED for a discard, a refusal counted and answered with the count, in two bytes (DEDUCED from R169, log entry 11). -/
def Obligations.DirectTalkIsDecidedOnItsReturn : Prop :=
  ∀ (s : State) (o m p h : Byte) (rb : BitVec 7),
    let talk (t : State) (a : Answer) : Prop :=
      Completes (.talkDirect o rb m p h) .talkback 0x40 [o, BitVec.append (0#1) rb, m, p, h] s t a
    (NoOriginator s o ∨ 24 ≤ rb.toNat ∨ 2 ≤ m.toNat ∨ 4 ≤ p.toNat → talk s (refuse .invalid)) ∧
    ∀ (i : SourceId) (r : ReturnId) (mode : Mode) (pr : Fin 4) (code : Fin 8),
      Names o i → s.sources[i].kind = .talkback → rb.toNat = r.val → m = mode.byte → Names p pr → code.val = min h.toNat 7 →
      let q : Request :=
        { originator := i, target := .ret r, via := .direct, mode := mode, priority := pr, holdCode := code, origin := .port }
      let after := afterOutcomes s q (directOutcome s r q)
      (∀ old gone, (decision s r q).1 = .active old gone →
        talk after (ok [0x00, 0, indexByte old, indexByte gone, byteOf code.val])) ∧
      (∀ n, (decision s r q).1 = .queued n → talk after (ok [0x80, byteOf n, 0xFF, 0xFF, byteOf code.val])) ∧
      ∀ c, (decision s r q).1 = .refused c →
        talk after { result := c, body := count16 (countUp s.returns[r].refusals) }

/-- TALK, tag form (R84 to R87): every return that carries the tag visited once, by its deaf mode, with the counts and entries of the
response in ascending return order. -/
def Obligations.GroupTalkVisitsTheTaggedReturns : Prop :=
  ∀ (s : State) (o m p h : Byte) (tb : BitVec 7),
    let talk (t : State) (a : Answer) : Prop :=
      Completes (.talkTag o tb m p h) .talkback 0x40 [o, BitVec.append (1#1) tb, m, p, h] s t a
    (NoOriginator s o ∨ tb = 0 ∨ 16 ≤ tb.toNat ∨ 2 ≤ m.toNat ∨ 4 ≤ p.toNat → talk s (refuse .invalid)) ∧
    ∀ (i : SourceId) (t : TagId) (mode : Mode) (pr : Fin 4) (code : Fin 8),
      Names o i → s.sources[i].kind = .talkback → tb.toNat = t.val + 1 → m = mode.byte → Names p pr → code.val = min h.toNat 7 →
      let q : Request :=
        { originator := i, target := .tag t, via := .tag t, mode := mode, priority := pr, holdCode := code, origin := .port }
      talk (afterOutcomes s q (groupOutcome s t q)) { result := groupCode (groupCounts s t q), body := groupBody s t q }

/-- RELEASE, direct form (R67 to R69), in states with the law of R57: NOT FOUND, a pending request removed, the active one with
promotion. -/
def Obligations.DirectReleaseRemovesTheRequest : Prop :=
  ∀ (s : State) (o : Byte) (rb : BitVec 7),
    let release (t : State) (a : Answer) : Prop :=
      Completes (.releaseDirect o rb) .talkback 0x41 [o, BitVec.append (0#1) rb] s t a
    (NoOriginator s o ∨ 24 ≤ rb.toNat → release s (refuse .invalid)) ∧
    ∀ (i : SourceId) (r : ReturnId), Names o i → s.sources[i].kind = .talkback → rb.toNat = r.val → s.arbiter[r].Lawful →
      let a := s.arbiter[r]
      (¬ a.HasRequestOf i → release s (refuse .notFound)) ∧
      (∀ n q, a.waiting[n]? = some q → q.originator = i →
        release { s with arbiter := s.arbiter.set r { a with waiting := a.waiting.eraseIdx n } } (ok [0, 0xFF])) ∧
      ∀ x, a.active = some x → x.request.originator = i →
        let t : State := { s with arbiter := s.arbiter.set r (promoted a.waiting), queue := joinQueue s.queue (onlyReturn r) true }
        release (if a.waiting = [] then t else t.raise .interruptStarted r.val)
          (ok [1, indexByte ((promoted a.waiting).active.map fun y => y.request.originator)])

/-- RELEASE, tag form (R88), in states with the law of R57: on every return the originator's request addressed via the tag is removed,
with promotion where it was active; a request addressed otherwise stays. -/
def Obligations.TagReleaseRemovesTheTagsRequests : Prop :=
  ∀ (s : State) (o : Byte) (tb : BitVec 7),
    let release (t : State) (a : Answer) : Prop :=
      Completes (.releaseTag o tb) .talkback 0x41 [o, BitVec.append (1#1) tb] s t a
    (NoOriginator s o ∨ tb = 0 ∨ 16 ≤ tb.toNat → release s (refuse .invalid)) ∧
    ∀ (i : SourceId) (t : TagId), Names o i → s.sources[i].kind = .talkback → tb.toNat = t.val + 1 → s.ArbiterLawful →
      let p : Request → Bool := fun q => decide (q.originator = i) && decide (q.via = .tag t)
      (hits s p = 0 → release s (refuse .notFound)) ∧
      (0 < hits s p → release (afterReleases s p fun _ => true) (ok (releaseBody s p)))

/-- SET TALK LEVEL (R77), CLEAR REFUSALS (R66) and SET TAGS (R82): the tag positions and the deaf mode are written after the checks in
order, answered with the prior ones; no row is marked and no request touched (R83). -/
def Obligations.TalkSettingsAreWritten : Prop :=
  (∀ (s : State) (b : Byte) (l : Coeff),
     (NoOriginator s b → Completes (.setTalkLevel b l) .talkback 0x42 (b :: be16 l) s s (refuse .invalid)) ∧
     (∀ i : SourceId, Names b i → s.sources[i].kind = .talkback →
       Completes (.setTalkLevel b l) .talkback 0x42 (b :: be16 l) s
         { s with
           sources := s.sources.set i { s.sources[i] with talkLevel := l }
           queue := joinQueue s.queue
             (returnRows fun r => activeHit s.arbiter[r] fun q => decide (q.originator = i)) false } (ok [])) ∧
     (24 ≤ b.toNat → b ≠ 0xFF → Completes (.clearRefusals b) .talkback 0x47 [b] s s (refuse .invalid)) ∧
     (∀ r : ReturnId, Names b r → Completes (.clearRefusals b) .talkback 0x47 [b] s
       { s with returns := s.returns.set r { s.returns[r] with refusals := 0 } } (ok (count16 s.returns[r].refusals))) ∧
     (b = 0xFF → Completes (.clearRefusals b) .talkback 0x47 [b] s
       { s with returns := Vector.ofFn fun r => { s.returns[r] with refusals := 0 } }
       (ok ((List.finRange 24).flatMap fun r => count16 s.returns[r].refusals)))) ∧
  ∀ (s : State) (rb b0 b1 b2 d : Byte),
    let tags (t : State) (a : Answer) : Prop := Completes (.setTags rb b0 b1 b2 d) .talkback 0x44 [rb, b0, b1, b2, d] s t a
    let repeated : Prop := (b0 ≠ 0 ∧ (b0 = b1 ∨ b0 = b2)) ∨ (b1 ≠ 0 ∧ b1 = b2)
    (24 ≤ rb.toNat ∨ 16 ≤ b0.toNat ∨ 16 ≤ b1.toNat ∨ 16 ≤ b2.toNat ∨ 3 ≤ d.toNat → tags s (refuse .invalid)) ∧
    ∀ (r : ReturnId) (t0 t1 t2 : Option TagId) (m : DeafMode),
      Names rb r → b0 = tagPositionByte t0 → b1 = tagPositionByte t1 → b2 = tagPositionByte t2 → d = m.byte →
      (repeated → tags s (refuse .duplicate)) ∧
      (¬ repeated → tags
        { s with returns := s.returns.set r { s.returns[r] with tags := #v[t0, t1, t2], deaf := m } }
        (ok (s.returns[r].tags.toList.map tagPositionByte ++ [s.returns[r].deaf.byte])))

/-! ## Keys -/

/-- BIND KEY (R96), in lawful states: a bound key is unbound first with its requests released, then the template, press level and key
mode are written, with the press count and last outcome cleared. UNBIND KEY (R97), in lawful states: every request of the key
released, the binding and the press count cleared; NOT FOUND for an unbound key. -/
def Obligations.BindKeyAndUnbindKeyReleaseTheKeysRequests : Prop :=
  (∀ (s : State) (kb o g m p h l km : Byte),
     let bind (t : State) (a : Answer) : Prop :=
       Completes (.bindKey kb o g m p h l km) .talkback 0x45 [kb, o, g, m, p, h, l, km] s t a
     (8 ≤ kb.toNat ∨ NoOriginator s o ∨ (24 ≤ g.toNat ∧ g.toNat ≤ 0x80) ∨ 0x90 ≤ g.toNat ∨ 2 ≤ m.toNat ∨ 4 ≤ p.toNat ∨
       2 ≤ l.toNat ∨ 2 ≤ km.toNat → bind s (refuse .invalid)) ∧
     ∀ (n : KeyId) (i : SourceId) (target : Target) (mode : Mode) (pr : Fin 4) (code : Fin 8) (level : Level) (keyMode : KeyMode),
       s.Lawful → Names kb n → Names o i → s.sources[i].kind = .talkback → g = target.byte → m = mode.byte → Names p pr →
       code.val = min h.toNat 7 → l = levelByte level → km = keyMode.byte →
       let released := afterReleases s (ofKey n) fun _ => true
       bind
         (released.setKey n { s.keys[n] with
           binding := some { originator := i, target := target, mode := mode, priority := pr, holdCode := code }
           pressLevel := level, keyMode := keyMode, pressCounted := false, lastOutcome := .none })
         (ok (priorBytes s.keys[n].binding ++ count16 (hits s (ofKey n))))) ∧
  ∀ (s : State) (kb : Byte),
    (8 ≤ kb.toNat → Completes (.unbindKey kb) .talkback 0x46 [kb] s s (refuse .invalid)) ∧
    ∀ n : KeyId, s.Lawful → Names kb n →
      (s.keys[n].binding = none → Completes (.unbindKey kb) .talkback 0x46 [kb] s s (refuse .notFound)) ∧
      (s.keys[n].binding ≠ none → Completes (.unbindKey kb) .talkback 0x46 [kb] s
        ((afterReleases s (ofKey n) fun _ => true).setKey n { s.keys[n] with binding := none, pressCounted := false })
        (ok (count16 (hits s (ofKey n)))))

/-- A change of a contact line (R90): away from the accepted level a wait starts with the full debounce time, back at it the wait ends
with nothing accepted; the accepted level stays. -/
def Obligations.KeyLineChangesStartAndEndWaits : Prop :=
  ∀ (s : State) (n : KeyId) (l : Level), s.inReset = false →
    (s.keys[n].line = l → exec (.keyLineChange n l) s = .next s) ∧
    (s.keys[n].line ≠ l → l ≠ s.keys[n].accepted →
      exec (.keyLineChange n l) s = .next (s.setKey n { s.keys[n] with line := l, debounce := .waiting s.debounceTime })) ∧
    (s.keys[n].line ≠ l → l = s.keys[n].accepted →
      exec (.keyLineChange n l) s = .next (s.setKey n { s.keys[n] with line := l, debounce := .idle }))

/-- An acceptance (R90, R92): the line's level becomes the accepted one and the wait ends; an unbound key does no more than clear
press counted; a bound key raises KEY EVENT. In MOMENTARY mode a press issues TALK and a counted press's release RELEASE (R93); in
LATCH mode a press issues RELEASE where it finds a request and TALK where it does not (R94); the outcome is recorded (R95). -/
def Obligations.KeyAcceptancesActOnTheBinding : Prop :=
  ∀ (s : State) (n : KeyId), s.inReset = false → s.Lawful →
    let k := s.keys[n]
    let accept (counted : Bool) : State := s.setKey n { k with accepted := k.line, debounce := .idle, pressCounted := counted }
    let event (counted : Bool) : State := (accept counted).raise .keyEvent n.val
    (k.debounce = .idle → exec (.keyAcceptance n) s = .next s) ∧
    ∀ left, k.debounce = .waiting left →
      (k.binding = none → exec (.keyAcceptance n) s = .next (accept false)) ∧
      ∀ b, k.binding = some b →
        (k.line = k.pressLevel → k.keyMode = .momentary ∨ keyHits s b = 0 →
          exec (.keyAcceptance n) s = .next (afterKeyTalk (event true) n b)) ∧
        (k.line = k.pressLevel → k.keyMode = .latch → keyHits s b ≠ 0 →
          exec (.keyAcceptance n) s = .next (afterKeyRelease (event true) n b)) ∧
        (k.line ≠ k.pressLevel → k.keyMode = .momentary → k.pressCounted = true →
          exec (.keyAcceptance n) s = .next (afterKeyRelease (event false) n b)) ∧
        (k.line ≠ k.pressLevel → k.keyMode = .latch ∨ k.pressCounted = false →
          exec (.keyAcceptance n) s = .next (event false))

/-! ## Frames -/

/-- A frame arrival's mix (R119 to R127, R132), where a frame is being collected (R133; the arrival stands for the bit periods still
lacking, log entry 5): every cell ramps, targets and steps stay; each return row's exact sum of ramped gains
and input samples is rounded once, saturated and clamped to its ceiling; the samples stand in the slots of lanes 0 to 2, the program
sample, the monitor copy and zeros in lane 3. -/
def Obligations.FrameArrivalsMixTheRows : Prop :=
  ∀ (s : State) (slots : Vector SlotWord 32), s.inReset = false → s.assembly ≠ .waiting →
    ∃ t, exec (.frameArrival slots) s = .next t ∧
    (∀ (ρ : Row) (i : SourceId), (t.row ρ)[i] = { (s.row ρ)[i] with current := BitVec.ofNat 16 (ramped (s.row ρ)[i]) }) ∧
    (∀ (ρ : Row) (i : SourceId), ramped (s.row ρ)[i] ≤ 65535) ∧
    (∀ (r : ReturnId) (j : Fin 32), j.val = r.val → (t.held[j]).toInt = finalSample s slots r) ∧
    (t.held[24]).toInt = saturated (rounded s slots .program) ∧
    (t.held[25]).toInt = (match s.monitor with | none => 0 | some r => finalSample s slots r) ∧
    ∀ j : Fin 32, 26 ≤ j.val → t.held[j] = 0

/-- The Level Monitor's silence detection at a frame arrival that a frame sync edge began (R133, R144 step 1, R145 to R148; log entry 5), on
callers and codecs alone; the guards count down in the same arrival (R20), to 0 where they stay until their expiry (log entry 6). -/
def Obligations.FrameArrivalsCountSilenceAndGuards : Prop :=
  ∀ (s : State) (slots : Vector SlotWord 32), s.inReset = false → s.assembly ≠ .waiting →
    ∃ t, exec (.frameArrival slots) s = .next t ∧
    (∀ i : SourceId,
      (Remote s.sources[i] → t.sources[i] = { s.sources[i] with
        guard := s.sources[i].guard.map fun n => n - 1
        silenceCount := heardCount s slots i
        silent := heardSilent s slots i }) ∧
      (¬ Remote s.sources[i] → t.sources[i] = { s.sources[i] with guard := s.sources[i].guard.map fun n => n - 1 })) ∧
    ∀ i : SourceId, hasIndex (t.port .console).notices.sets[2] i.val =
      (hasIndex (s.port .console).notices.sets[2] i.val ||
        (decide (Remote s.sources[i] ∧ heardSilent s slots i ≠ s.sources[i].silent) &&
          decide (s.sources[i].stage = .hold ∨ s.sources[i].stage = .ready ∨ s.sources[i].stage = .air)))

/-- Clip counting and the watch interval at a frame arrival that a frame sync edge began (R125, R133, R144 steps 2 and 3, R150 to R153; log
entry 5): clipped samples counted and the
threshold tested; at the last frame of the interval the counts captured, CLIP REPORT raised where it is due, the interval restarted by
the watch code and the loss mark cleared. -/
def Obligations.FrameArrivalsCountClipsAndTheInterval : Prop :=
  ∀ (s : State) (slots : Vector SlotWord 32), s.inReset = false → s.assembly ≠ .waiting → 1 ≤ s.watchRemaining →
    let expires := decide (s.watchRemaining = 1)
    ∃ t, exec (.frameArrival slots) s = .next t ∧
      (∀ r : ReturnId, t.clips[r] =
        if expires then { count := 0, captured := clipCount s slots r, overThreshold := false }
        else { s.clips[r] with
          count := clipCount s slots r
          overThreshold := s.clips[r].overThreshold || passesThreshold s slots r }) ∧
      t.watchRemaining = (if expires then 12000 * 2 ^ s.watchCode else s.watchRemaining - 1) ∧
      t.lossMark = (if expires then false else s.lossMark) ∧
      ∀ r : ReturnId,
        hasIndex (t.port .console).notices.sets[4] r.val =
          (hasIndex (s.port .console).notices.sets[4] r.val || passesThreshold s slots r) ∧
        hasIndex (t.port .console).notices.sets[3] r.val =
          (hasIndex (s.port .console).notices.sets[3] r.val ||
            (expires && decide (s.clips[r].captured = 0 ∧ clipCount s slots r ≠ 0) && !s.lossMark))

/-- The rest of a frame arrival that a frame sync edge began (R70, R133, R134, R137, R138; log entries 5, 6 and 18) and all it leaves alone:
hold timers count down, the assembly waits, the monitor is LOCKED with the full gap, SYNC CHANGE at the three ports where it was not;
slots, masks, tables, targets and the recompose queue are as before. Without an edge before it no arrival is taken (R133, R142; log
entry 3). -/
def Obligations.FrameArrivalsDriveTimersAndSync : Prop :=
  (∀ (s : State) (slots : Vector SlotWord 32), s.assembly = .waiting → exec (.frameArrival slots) s = .next s) ∧
  ∀ (s : State) (slots : Vector SlotWord 32), s.inReset = false → s.assembly ≠ .waiting →
    ∃ t, exec (.frameArrival slots) s = .next t ∧
    t = { s with
      ports := t.ports, sources := t.sources, cells := t.cells, held := t.held, clips := t.clips
      watchRemaining := t.watchRemaining, lossMark := t.lossMark
      arbiter := Vector.ofFn fun r => { s.arbiter[r] with
        active := s.arbiter[r].active.map fun x => { x with remaining := x.remaining - 1 } }
      assembly := .waiting, outFrame := none, sync := .locked, gap := some 1000 } ∧
    ∀ p : Port,
      t.port p = { s.port p with notices := (t.port p).notices } ∧
      (t.port p).notices.sync = ((s.port p).notices.sync || decide (s.sync ≠ .locked)) ∧
      (∀ b : Fin 5, ¬ (p = .console ∧ 2 ≤ b.val) → (t.port p).notices.sets[b] = (s.port p).notices.sets[b])

/-- The frame arrival at which a source becomes SILENT and the one at which the watch interval expires are frame arrivals, where a frame
is being collected and their condition holds (R133, R146, R153, R144: in the one event of the arrival; log entries 3, 5 and 7). -/
def Obligations.SilenceAndWatchExpiriesAreFrameArrivals : Prop :=
  ∀ (s : State) (slots : Vector SlotWord 32), s.inReset = false →
    (∀ i : SourceId,
      let falls : Prop := s.assembly ≠ .waiting ∧ Remote s.sources[i] ∧ s.sources[i].silent = false ∧ heardSilent s slots i = true
      (falls → ∃ t, exec (.silenceLimitReached i slots) s = .next t ∧ exec (.frameArrival slots) s = .next t ∧
        t.sources[i].silent = true ∧ t.sources[i].silenceCount = s.silenceTime * 48000) ∧
      (¬ falls → exec (.silenceLimitReached i slots) s = .next s)) ∧
    (s.assembly ≠ .waiting → s.watchRemaining = 1 →
      ∃ t, exec (.watchIntervalExpiry slots) s = .next t ∧ exec (.frameArrival slots) s = .next t ∧
        t.watchRemaining = 12000 * 2 ^ s.watchCode ∧ ∀ r : ReturnId, t.clips[r].count = 0) ∧
    (s.assembly = .waiting ∨ 1 < s.watchRemaining → exec (.watchIntervalExpiry slots) s = .next s)

/-- The frame sync edges (R128, R133, R135): an edge starts a frame and an output frame of the held samples as they stand, each in its slot,
and a short frame's bits are discarded. The output pins (R132, R135, R142, R173): in bit period n of an output frame each lane carries the
bits of its slots, sample bit 23 first and zeros in the last eight; zeros between frames, in reset and while the bit clock is stopped. The
loss of sync in LOCKED (R139, R129, R154): LOST, the gap timer stopped, SYNC CHANGE at the three ports, current values and held samples at
0, targets and steps kept, the loss mark set. (Events whose condition fails: log entry 3; the stored output frame: log entry 18.) -/
def Obligations.EdgesStartFramesAndLossSilences : Prop :=
  (∀ (s : State) (lane : Fin 4),
    s.dataPin false lane = false ∧
    (s.inReset = true ∨ s.assembly = .waiting ∨ s.outFrame = none → s.dataPin true lane = false) ∧
    ∀ (n : Nat) (held : Vector Sample 32) (j : Fin 32), s.inReset = false → n < 256 → s.assembly = .collecting n →
      s.outFrame = some (held.map outputSlot) → j.val = 8 * lane.val + n / 32 →
      s.dataPin true lane = if n % 32 < 24 then (held[j]).getLsbD (23 - n % 32) else false) ∧
  ∀ s : State, s.inReset = false →
    let slots := s.held.map outputSlot
    exec .frameSyncRisingEdge s = .next { s with assembly := .collecting 0, outFrame := some slots } ∧
    (∀ n, s.assembly = .collecting n →
      exec .shortFrame s = .next { s with assembly := .collecting 0, outFrame := some slots }) ∧
    (s.assembly = .waiting → exec .shortFrame s = .next s) ∧
    (s.sync = .locked → exec .syncLoss s = .next { s with
      sync := .lost, gap := none, lossMark := true
      held := Vector.replicate 32 0
      cells := s.cells.map fun cs => cs.map fun c => { c with current := 0 }
      ports := s.ports.map fun q => { q with notices := { q.notices with sync := true } } }) ∧
    (s.sync ≠ .locked → exec .syncLoss s = .next s)

/-! ## Composer and arithmetic -/

/-- The take and the completion of a row (R112, R113): the head leaves the queue with its flag and the targets of the tables as they
stand; at the completion a cell with a new target takes the talk step or the program step by the flag, any other keeps its step, and
no current value moves. -/
def Obligations.RowsAreTakenAndCompleted : Prop :=
  ∀ s : State, s.inReset = false →
    (∀ (e : QueueEntry) (rest : List QueueEntry), s.inFlight = none → s.queue = e :: rest →
      exec .recomposeTake s = .next { s with
        queue := rest
        inFlight := some { row := e.row, talk := e.talk, targets := Vector.ofFn fun i => s.targetOf e.row i } }) ∧
    (s.inFlight ≠ none ∨ s.queue = [] → exec .recomposeTake s = .next s) ∧
    (∀ f, s.inFlight = some f → exec .recomposeCompletion s = .next { s with
      inFlight := none
      cells := s.cells.set (rowIndex f.row) (Vector.ofFn fun i =>
        if (s.row f.row)[i].target = f.targets[i] then (s.row f.row)[i]
        else { (s.row f.row)[i] with
          target := f.targets[i], step := if f.talk then s.talkStep else s.programStep }) }) ∧
    (s.inFlight = none → exec .recomposeCompletion s = .next s)

/-- Marks (R110, R111): the rows an event marks keep their places and take the cause, the missing ones join in row order; no row
stands twice; and a mark changes nothing but the queue. -/
def Obligations.MarksJoinTheQueueInRowOrder : Prop :=
  ∀ (s : State) (p : Row → Bool) (ρ : Row) (talk : Bool),
    s.markRows p = { s with queue := joinQueue s.queue p false } ∧
    s.mark ρ talk = { s with queue := joinQueue s.queue (fun x => decide (x = ρ)) talk } ∧
    (∀ x : Row, (joinQueue s.queue p talk).any (fun e => e.row == x) = (s.queued x || p x)) ∧
    (s.QueueLawful → ((joinQueue s.queue p talk).map QueueEntry.row).Nodup ∧ (joinQueue s.queue p talk).length ≤ 25)

/-- R108: in lawful states the composition gives a zero target to every source of a return's minus set, and to the air feed while a
source of the minus set is in AIR or under a running guard; and a settled row holds those targets. -/
def Obligations.NoReturnCarriesItsMinusSet : Prop :=
  ∀ s : State, s.Lawful → ∀ (r : ReturnId) (i f : SourceId),
    let settled : Prop := s.SettledLawful ∧ s.queued (.ret r) = false ∧ s.flying (.ret r) = false
    Minus s r i →
      s.targetOf (.ret r) i = 0 ∧ (settled → (s.row (.ret r))[i].target = 0) ∧
      (s.airFeed = some f → s.sources[i].stage = .air ∨ s.sources[i].guard ≠ none →
        s.targetOf (.ret r) f = 0 ∧ (settled → (s.row (.ret r))[f].target = 0))

/-- The target of every cell by the six steps of chapter 6 (R6, R36 to R38, R102 to R107), written out from the tables, in lawful
states. -/
def Obligations.TargetsFollowTheSixSteps : Prop :=
  ∀ s : State, s.Lawful → ∀ (r : ReturnId) (i : SourceId),
    let scale (x y : Nat) : Nat := min 65535 ((x * y + 8192) / 16384)
    let program (j : SourceId) : Nat :=
      if (Remote s.sources[j] ∧ s.sources[j].stage = .air) ∨
        ((s.sources[j].kind = .studio ∨ s.sources[j].kind = .playout) ∧ s.sources[j].on = true)
      then s.sources[j].fader.toNat else 0
    let fromProgram : Prop := Wants s r .program ∨ (Wants s r .air ∧ Demoted s r)
    let fromAir : Prop := Wants s r .air ∧ ¬ Demoted s r
    let target : Nat := (s.targetOf (.ret r) i).toNat
    (s.targetOf .program i).toNat = program i ∧
    (AtStage s r .vacant → target = 0) ∧
    (¬ AtStage s r .vacant → ∀ base level : Nat,
      (fromProgram → base = if Minus s r i then 0 else program i) →
      (fromAir → base = if s.airFeed = some i then 16384 else 0) →
      (Wants s r .silent → base = 0) →
      ((∀ (a : SourceId) (k : ConferenceId), s.returns[r].attached = some a → a ∉ s.conferences[k].members) →
        level = scale base s.returns[r].level.toNat) →
      (∀ (a : SourceId) (k : ConferenceId), s.returns[r].attached = some a → a ∈ s.conferences[k].members →
        level = scale (min 65535 (scale base s.conferences[k].bed.toNat +
          if i ∈ s.conferences[k].members ∧ i ≠ a ∧ ¬ Minus s r i then s.conferences[k].gain.toNat else 0))
          s.returns[r].level.toNat) →
      (s.arbiter[r].active = none → target = level) ∧
      ∀ x, s.arbiter[r].active = some x →
        (i = x.request.originator → target = s.sources[i].talkLevel.toNat) ∧
        (i ≠ x.request.originator → x.request.mode = .cut → target = 0) ∧
        (i ≠ x.request.originator → x.request.mode = .dip → target = scale level s.returns[r].dipLevel.toNat))

/-- A ramp (R120, R121): after n frames a cell's distance from its target is its distance less n steps, never below 0, on the same
side; so it ends exactly on its target after the distance divided by the step, rounded up. The rounding of a sum (R123): to the nearest
whole sample, halves toward plus infinity, with the rule's two examples. The limits of output samples (R124, R125): a return's sample lies
within its ceiling, the program's within 24 bits, a sample within its limits is left as it is, and it is clipped exactly where it is
changed. -/
def Obligations.RampsSumsAndLimitsAreExact : Prop :=
  (∀ (v w : Coeff) (k n : Nat),
     let after := (fun x => rampValue x w k)^[n] v
     Nat.dist after.toNat w.toNat = Nat.dist v.toNat w.toNat - n * k ∧
     (v.toNat ≤ w.toNat → after.toNat ≤ w.toNat) ∧ (w.toNat ≤ v.toNat → w.toNat ≤ after.toNat) ∧
     (1 ≤ k → (Nat.dist v.toNat w.toNat + k - 1) / k ≤ n → after = w)) ∧
  ((∀ acc : Int, 16384 * roundSum acc ≤ acc + 8192 ∧ acc + 8192 < 16384 * (roundSum acc + 1)) ∧
    (∀ acc y : Int, 2 * |acc - 16384 * y| < 16384 → roundSum acc = y) ∧
    roundSum (16384 * 5 + 8192) = 6 ∧ roundSum (-(16384 * 5) - 8192) = -5) ∧
  ∀ (c : Nat) (y : Int), c ≤ 8388607 →
    -(c : Int) ≤ returnSample c y ∧ returnSample c y ≤ c ∧ -8388608 ≤ saturate y ∧ saturate y ≤ 8388607 ∧
    (-(c : Int) ≤ y → y ≤ c → returnSample c y = y) ∧ (-8388608 ≤ y → y ≤ 8388607 → saturate y = y) ∧
    (clippedSample c y = true ↔ y < -(c : Int) ∨ (c : Int) < y) ∧
    returnSample 8388607 (-8388608) = -8388607

/-! ## Invariants -/

/-- R57 is kept by every step. -/
def Obligations.EveryStepKeepsTheArbiterLaw : Prop :=
  ∀ s t : State, s.ArbiterLawful → step s = .next t → t.ArbiterLawful

/-- R43 and R53 are kept by every step. -/
def Obligations.EveryStepKeepsTheConferenceLaw : Prop :=
  ∀ s t : State, s.ConferencesLawful → step s = .next t → t.ConferencesLawful

/-- The cross-references of the tables (R3, R18, R20, R23, R25, R29, R73, R79, R96, R97) are kept by every step. -/
def Obligations.EveryStepKeepsTheTableLaw : Prop :=
  ∀ s t : State, s.TablesLawful → step s = .next t → t.TablesLawful

/-- R115: every step keeps every settled row's targets equal to those the composition gives for the tables as they stand. -/
def Obligations.EveryStepKeepsSettledRowsTrue : Prop :=
  ∀ s t : State, s.Lawful → s.SettledLawful → step s = .next t → t.SettledLawful

/-- Kept by every step: the ranges of every count and setting (R20, R23, R65, R70, R91, R100, R118, R143, R150, R155); a key out of reset
is idle exactly with its line at its accepted level, a wait lies within 1 to 32 ms, press counted is set on a bound key alone (R89 to R92,
R97); the recompose queue holds no row twice (R109), slots and overrun flags agree (R160, R161, R164), the gap timer runs in LOCKED alone
and LOST is silent (R129, R136); a frame being collected has fewer than 256 bit periods and an output frame under way with it (R133,
R135; the stored output frame: log entry 18). -/
def Obligations.EveryStepKeepsTheRecordLaws : Prop :=
  (∀ s t : State, s.RangesLawful → step s = .next t → t.RangesLawful) ∧
  (∀ s t : State, s.RangesLawful → s.KeysLawful → step s = .next t → t.KeysLawful) ∧
  (∀ s t : State, s.QueueLawful → s.SlotsLawful → s.SyncLawful → step s = .next t →
    t.QueueLawful ∧ t.SlotsLawful ∧ t.SyncLawful) ∧
  ∀ s t : State, s.LanesLawful → step s = .next t → t.LanesLawful

/-- The reset state has every law. -/
def Obligations.TheResetStateIsLawful : Prop :=
  State.reset.Lawful ∧ State.reset.SettledLawful ∧ State.reset.RangesLawful ∧ State.reset.QueueLawful ∧ State.reset.SlotsLawful ∧
    State.reset.SyncLawful ∧ State.reset.LanesLawful ∧ State.reset.KeysLawful
end

