-- ==== Sys2Proof/Laws/State.lean ====
section
/-! SUPPORT. One lemma per field per update of State: each writer of Machine/Ops.lean (and of a clip record and a refusal count) changes one
field, and what it leaves alone reads as before. Then what each writer's own field reads as. -/

namespace Sys2Proof.Machine

variable (s : State)

/-! ## setPort writes ports alone -/

@[simp] theorem State.setPort_sources (p : Port) (q : PortState) : (s.setPort p q).sources = s.sources := rfl
@[simp] theorem State.setPort_airFeed (p : Port) (q : PortState) : (s.setPort p q).airFeed = s.airFeed := rfl
@[simp] theorem State.setPort_airDelay (p : Port) (q : PortState) : (s.setPort p q).airDelay = s.airDelay := rfl
@[simp] theorem State.setPort_returns (p : Port) (q : PortState) : (s.setPort p q).returns = s.returns := rfl
@[simp] theorem State.setPort_monitor (p : Port) (q : PortState) : (s.setPort p q).monitor = s.monitor := rfl
@[simp] theorem State.setPort_conferences (p : Port) (q : PortState) : (s.setPort p q).conferences = s.conferences := rfl
@[simp] theorem State.setPort_arbiter (p : Port) (q : PortState) : (s.setPort p q).arbiter = s.arbiter := rfl
@[simp] theorem State.setPort_keys (p : Port) (q : PortState) : (s.setPort p q).keys = s.keys := rfl
@[simp] theorem State.setPort_debounceTime (p : Port) (q : PortState) : (s.setPort p q).debounceTime = s.debounceTime := rfl
@[simp] theorem State.setPort_cells (p : Port) (q : PortState) : (s.setPort p q).cells = s.cells := rfl
@[simp] theorem State.setPort_queue (p : Port) (q : PortState) : (s.setPort p q).queue = s.queue := rfl
@[simp] theorem State.setPort_inFlight (p : Port) (q : PortState) : (s.setPort p q).inFlight = s.inFlight := rfl
@[simp] theorem State.setPort_programStep (p : Port) (q : PortState) : (s.setPort p q).programStep = s.programStep := rfl
@[simp] theorem State.setPort_talkStep (p : Port) (q : PortState) : (s.setPort p q).talkStep = s.talkStep := rfl
@[simp] theorem State.setPort_held (p : Port) (q : PortState) : (s.setPort p q).held = s.held := rfl
@[simp] theorem State.setPort_assembly (p : Port) (q : PortState) : (s.setPort p q).assembly = s.assembly := rfl
@[simp] theorem State.setPort_outFrame (p : Port) (q : PortState) : (s.setPort p q).outFrame = s.outFrame := rfl
@[simp] theorem State.setPort_sync (p : Port) (q : PortState) : (s.setPort p q).sync = s.sync := rfl
@[simp] theorem State.setPort_gap (p : Port) (q : PortState) : (s.setPort p q).gap = s.gap := rfl
@[simp] theorem State.setPort_clips (p : Port) (q : PortState) : (s.setPort p q).clips = s.clips := rfl
@[simp] theorem State.setPort_watchCode (p : Port) (q : PortState) : (s.setPort p q).watchCode = s.watchCode := rfl
@[simp] theorem State.setPort_clipThreshold (p : Port) (q : PortState) : (s.setPort p q).clipThreshold = s.clipThreshold := rfl
@[simp] theorem State.setPort_silenceThreshold (p : Port) (q : PortState) : (s.setPort p q).silenceThreshold = s.silenceThreshold := rfl
@[simp] theorem State.setPort_silenceTime (p : Port) (q : PortState) : (s.setPort p q).silenceTime = s.silenceTime := rfl
@[simp] theorem State.setPort_watchRemaining (p : Port) (q : PortState) : (s.setPort p q).watchRemaining = s.watchRemaining := rfl
@[simp] theorem State.setPort_lossMark (p : Port) (q : PortState) : (s.setPort p q).lossMark = s.lossMark := rfl
@[simp] theorem State.setPort_inReset (p : Port) (q : PortState) : (s.setPort p q).inReset = s.inReset := rfl
@[simp] theorem State.setPort_pending (p : Port) (q : PortState) : (s.setPort p q).pending = s.pending := rfl

/-! ## setSource writes sources alone -/

@[simp] theorem State.setSource_ports (i : SourceId) (x : Source) : (s.setSource i x).ports = s.ports := rfl
@[simp] theorem State.setSource_airFeed (i : SourceId) (x : Source) : (s.setSource i x).airFeed = s.airFeed := rfl
@[simp] theorem State.setSource_airDelay (i : SourceId) (x : Source) : (s.setSource i x).airDelay = s.airDelay := rfl
@[simp] theorem State.setSource_returns (i : SourceId) (x : Source) : (s.setSource i x).returns = s.returns := rfl
@[simp] theorem State.setSource_monitor (i : SourceId) (x : Source) : (s.setSource i x).monitor = s.monitor := rfl
@[simp] theorem State.setSource_conferences (i : SourceId) (x : Source) : (s.setSource i x).conferences = s.conferences := rfl
@[simp] theorem State.setSource_arbiter (i : SourceId) (x : Source) : (s.setSource i x).arbiter = s.arbiter := rfl
@[simp] theorem State.setSource_keys (i : SourceId) (x : Source) : (s.setSource i x).keys = s.keys := rfl
@[simp] theorem State.setSource_debounceTime (i : SourceId) (x : Source) : (s.setSource i x).debounceTime = s.debounceTime := rfl
@[simp] theorem State.setSource_cells (i : SourceId) (x : Source) : (s.setSource i x).cells = s.cells := rfl
@[simp] theorem State.setSource_queue (i : SourceId) (x : Source) : (s.setSource i x).queue = s.queue := rfl
@[simp] theorem State.setSource_inFlight (i : SourceId) (x : Source) : (s.setSource i x).inFlight = s.inFlight := rfl
@[simp] theorem State.setSource_programStep (i : SourceId) (x : Source) : (s.setSource i x).programStep = s.programStep := rfl
@[simp] theorem State.setSource_talkStep (i : SourceId) (x : Source) : (s.setSource i x).talkStep = s.talkStep := rfl
@[simp] theorem State.setSource_held (i : SourceId) (x : Source) : (s.setSource i x).held = s.held := rfl
@[simp] theorem State.setSource_assembly (i : SourceId) (x : Source) : (s.setSource i x).assembly = s.assembly := rfl
@[simp] theorem State.setSource_outFrame (i : SourceId) (x : Source) : (s.setSource i x).outFrame = s.outFrame := rfl
@[simp] theorem State.setSource_sync (i : SourceId) (x : Source) : (s.setSource i x).sync = s.sync := rfl
@[simp] theorem State.setSource_gap (i : SourceId) (x : Source) : (s.setSource i x).gap = s.gap := rfl
@[simp] theorem State.setSource_clips (i : SourceId) (x : Source) : (s.setSource i x).clips = s.clips := rfl
@[simp] theorem State.setSource_watchCode (i : SourceId) (x : Source) : (s.setSource i x).watchCode = s.watchCode := rfl
@[simp] theorem State.setSource_clipThreshold (i : SourceId) (x : Source) : (s.setSource i x).clipThreshold = s.clipThreshold := rfl
@[simp] theorem State.setSource_silenceThreshold (i : SourceId) (x : Source) : (s.setSource i x).silenceThreshold = s.silenceThreshold := rfl
@[simp] theorem State.setSource_silenceTime (i : SourceId) (x : Source) : (s.setSource i x).silenceTime = s.silenceTime := rfl
@[simp] theorem State.setSource_watchRemaining (i : SourceId) (x : Source) : (s.setSource i x).watchRemaining = s.watchRemaining := rfl
@[simp] theorem State.setSource_lossMark (i : SourceId) (x : Source) : (s.setSource i x).lossMark = s.lossMark := rfl
@[simp] theorem State.setSource_inReset (i : SourceId) (x : Source) : (s.setSource i x).inReset = s.inReset := rfl
@[simp] theorem State.setSource_pending (i : SourceId) (x : Source) : (s.setSource i x).pending = s.pending := rfl

/-! ## setReturn writes returns alone -/

@[simp] theorem State.setReturn_ports (r : ReturnId) (x : Return) : (s.setReturn r x).ports = s.ports := rfl
@[simp] theorem State.setReturn_sources (r : ReturnId) (x : Return) : (s.setReturn r x).sources = s.sources := rfl
@[simp] theorem State.setReturn_airFeed (r : ReturnId) (x : Return) : (s.setReturn r x).airFeed = s.airFeed := rfl
@[simp] theorem State.setReturn_airDelay (r : ReturnId) (x : Return) : (s.setReturn r x).airDelay = s.airDelay := rfl
@[simp] theorem State.setReturn_monitor (r : ReturnId) (x : Return) : (s.setReturn r x).monitor = s.monitor := rfl
@[simp] theorem State.setReturn_conferences (r : ReturnId) (x : Return) : (s.setReturn r x).conferences = s.conferences := rfl
@[simp] theorem State.setReturn_arbiter (r : ReturnId) (x : Return) : (s.setReturn r x).arbiter = s.arbiter := rfl
@[simp] theorem State.setReturn_keys (r : ReturnId) (x : Return) : (s.setReturn r x).keys = s.keys := rfl
@[simp] theorem State.setReturn_debounceTime (r : ReturnId) (x : Return) : (s.setReturn r x).debounceTime = s.debounceTime := rfl
@[simp] theorem State.setReturn_cells (r : ReturnId) (x : Return) : (s.setReturn r x).cells = s.cells := rfl
@[simp] theorem State.setReturn_queue (r : ReturnId) (x : Return) : (s.setReturn r x).queue = s.queue := rfl
@[simp] theorem State.setReturn_inFlight (r : ReturnId) (x : Return) : (s.setReturn r x).inFlight = s.inFlight := rfl
@[simp] theorem State.setReturn_programStep (r : ReturnId) (x : Return) : (s.setReturn r x).programStep = s.programStep := rfl
@[simp] theorem State.setReturn_talkStep (r : ReturnId) (x : Return) : (s.setReturn r x).talkStep = s.talkStep := rfl
@[simp] theorem State.setReturn_held (r : ReturnId) (x : Return) : (s.setReturn r x).held = s.held := rfl
@[simp] theorem State.setReturn_assembly (r : ReturnId) (x : Return) : (s.setReturn r x).assembly = s.assembly := rfl
@[simp] theorem State.setReturn_outFrame (r : ReturnId) (x : Return) : (s.setReturn r x).outFrame = s.outFrame := rfl
@[simp] theorem State.setReturn_sync (r : ReturnId) (x : Return) : (s.setReturn r x).sync = s.sync := rfl
@[simp] theorem State.setReturn_gap (r : ReturnId) (x : Return) : (s.setReturn r x).gap = s.gap := rfl
@[simp] theorem State.setReturn_clips (r : ReturnId) (x : Return) : (s.setReturn r x).clips = s.clips := rfl
@[simp] theorem State.setReturn_watchCode (r : ReturnId) (x : Return) : (s.setReturn r x).watchCode = s.watchCode := rfl
@[simp] theorem State.setReturn_clipThreshold (r : ReturnId) (x : Return) : (s.setReturn r x).clipThreshold = s.clipThreshold := rfl
@[simp] theorem State.setReturn_silenceThreshold (r : ReturnId) (x : Return) : (s.setReturn r x).silenceThreshold = s.silenceThreshold := rfl
@[simp] theorem State.setReturn_silenceTime (r : ReturnId) (x : Return) : (s.setReturn r x).silenceTime = s.silenceTime := rfl
@[simp] theorem State.setReturn_watchRemaining (r : ReturnId) (x : Return) : (s.setReturn r x).watchRemaining = s.watchRemaining := rfl
@[simp] theorem State.setReturn_lossMark (r : ReturnId) (x : Return) : (s.setReturn r x).lossMark = s.lossMark := rfl
@[simp] theorem State.setReturn_inReset (r : ReturnId) (x : Return) : (s.setReturn r x).inReset = s.inReset := rfl
@[simp] theorem State.setReturn_pending (r : ReturnId) (x : Return) : (s.setReturn r x).pending = s.pending := rfl

/-! ## setConference writes conferences alone -/

@[simp] theorem State.setConference_ports (k : ConferenceId) (x : Conference) : (s.setConference k x).ports = s.ports := rfl
@[simp] theorem State.setConference_sources (k : ConferenceId) (x : Conference) : (s.setConference k x).sources = s.sources := rfl
@[simp] theorem State.setConference_airFeed (k : ConferenceId) (x : Conference) : (s.setConference k x).airFeed = s.airFeed := rfl
@[simp] theorem State.setConference_airDelay (k : ConferenceId) (x : Conference) : (s.setConference k x).airDelay = s.airDelay := rfl
@[simp] theorem State.setConference_returns (k : ConferenceId) (x : Conference) : (s.setConference k x).returns = s.returns := rfl
@[simp] theorem State.setConference_monitor (k : ConferenceId) (x : Conference) : (s.setConference k x).monitor = s.monitor := rfl
@[simp] theorem State.setConference_arbiter (k : ConferenceId) (x : Conference) : (s.setConference k x).arbiter = s.arbiter := rfl
@[simp] theorem State.setConference_keys (k : ConferenceId) (x : Conference) : (s.setConference k x).keys = s.keys := rfl
@[simp] theorem State.setConference_debounceTime (k : ConferenceId) (x : Conference) : (s.setConference k x).debounceTime = s.debounceTime := rfl
@[simp] theorem State.setConference_cells (k : ConferenceId) (x : Conference) : (s.setConference k x).cells = s.cells := rfl
@[simp] theorem State.setConference_queue (k : ConferenceId) (x : Conference) : (s.setConference k x).queue = s.queue := rfl
@[simp] theorem State.setConference_inFlight (k : ConferenceId) (x : Conference) : (s.setConference k x).inFlight = s.inFlight := rfl
@[simp] theorem State.setConference_programStep (k : ConferenceId) (x : Conference) : (s.setConference k x).programStep = s.programStep := rfl
@[simp] theorem State.setConference_talkStep (k : ConferenceId) (x : Conference) : (s.setConference k x).talkStep = s.talkStep := rfl
@[simp] theorem State.setConference_held (k : ConferenceId) (x : Conference) : (s.setConference k x).held = s.held := rfl
@[simp] theorem State.setConference_assembly (k : ConferenceId) (x : Conference) : (s.setConference k x).assembly = s.assembly := rfl
@[simp] theorem State.setConference_outFrame (k : ConferenceId) (x : Conference) : (s.setConference k x).outFrame = s.outFrame := rfl
@[simp] theorem State.setConference_sync (k : ConferenceId) (x : Conference) : (s.setConference k x).sync = s.sync := rfl
@[simp] theorem State.setConference_gap (k : ConferenceId) (x : Conference) : (s.setConference k x).gap = s.gap := rfl
@[simp] theorem State.setConference_clips (k : ConferenceId) (x : Conference) : (s.setConference k x).clips = s.clips := rfl
@[simp] theorem State.setConference_watchCode (k : ConferenceId) (x : Conference) : (s.setConference k x).watchCode = s.watchCode := rfl
@[simp] theorem State.setConference_clipThreshold (k : ConferenceId) (x : Conference) : (s.setConference k x).clipThreshold = s.clipThreshold := rfl
@[simp] theorem State.setConference_silenceThreshold (k : ConferenceId) (x : Conference) : (s.setConference k x).silenceThreshold = s.silenceThreshold := rfl
@[simp] theorem State.setConference_silenceTime (k : ConferenceId) (x : Conference) : (s.setConference k x).silenceTime = s.silenceTime := rfl
@[simp] theorem State.setConference_watchRemaining (k : ConferenceId) (x : Conference) : (s.setConference k x).watchRemaining = s.watchRemaining := rfl
@[simp] theorem State.setConference_lossMark (k : ConferenceId) (x : Conference) : (s.setConference k x).lossMark = s.lossMark := rfl
@[simp] theorem State.setConference_inReset (k : ConferenceId) (x : Conference) : (s.setConference k x).inReset = s.inReset := rfl
@[simp] theorem State.setConference_pending (k : ConferenceId) (x : Conference) : (s.setConference k x).pending = s.pending := rfl

/-! ## setArbitration writes arbiter alone -/

@[simp] theorem State.setArbitration_ports (r : ReturnId) (a : Arbitration) : (s.setArbitration r a).ports = s.ports := rfl
@[simp] theorem State.setArbitration_sources (r : ReturnId) (a : Arbitration) : (s.setArbitration r a).sources = s.sources := rfl
@[simp] theorem State.setArbitration_airFeed (r : ReturnId) (a : Arbitration) : (s.setArbitration r a).airFeed = s.airFeed := rfl
@[simp] theorem State.setArbitration_airDelay (r : ReturnId) (a : Arbitration) : (s.setArbitration r a).airDelay = s.airDelay := rfl
@[simp] theorem State.setArbitration_returns (r : ReturnId) (a : Arbitration) : (s.setArbitration r a).returns = s.returns := rfl
@[simp] theorem State.setArbitration_monitor (r : ReturnId) (a : Arbitration) : (s.setArbitration r a).monitor = s.monitor := rfl
@[simp] theorem State.setArbitration_conferences (r : ReturnId) (a : Arbitration) : (s.setArbitration r a).conferences = s.conferences := rfl
@[simp] theorem State.setArbitration_keys (r : ReturnId) (a : Arbitration) : (s.setArbitration r a).keys = s.keys := rfl
@[simp] theorem State.setArbitration_debounceTime (r : ReturnId) (a : Arbitration) : (s.setArbitration r a).debounceTime = s.debounceTime := rfl
@[simp] theorem State.setArbitration_cells (r : ReturnId) (a : Arbitration) : (s.setArbitration r a).cells = s.cells := rfl
@[simp] theorem State.setArbitration_queue (r : ReturnId) (a : Arbitration) : (s.setArbitration r a).queue = s.queue := rfl
@[simp] theorem State.setArbitration_inFlight (r : ReturnId) (a : Arbitration) : (s.setArbitration r a).inFlight = s.inFlight := rfl
@[simp] theorem State.setArbitration_programStep (r : ReturnId) (a : Arbitration) : (s.setArbitration r a).programStep = s.programStep := rfl
@[simp] theorem State.setArbitration_talkStep (r : ReturnId) (a : Arbitration) : (s.setArbitration r a).talkStep = s.talkStep := rfl
@[simp] theorem State.setArbitration_held (r : ReturnId) (a : Arbitration) : (s.setArbitration r a).held = s.held := rfl
@[simp] theorem State.setArbitration_assembly (r : ReturnId) (a : Arbitration) : (s.setArbitration r a).assembly = s.assembly := rfl
@[simp] theorem State.setArbitration_outFrame (r : ReturnId) (a : Arbitration) : (s.setArbitration r a).outFrame = s.outFrame := rfl
@[simp] theorem State.setArbitration_sync (r : ReturnId) (a : Arbitration) : (s.setArbitration r a).sync = s.sync := rfl
@[simp] theorem State.setArbitration_gap (r : ReturnId) (a : Arbitration) : (s.setArbitration r a).gap = s.gap := rfl
@[simp] theorem State.setArbitration_clips (r : ReturnId) (a : Arbitration) : (s.setArbitration r a).clips = s.clips := rfl
@[simp] theorem State.setArbitration_watchCode (r : ReturnId) (a : Arbitration) : (s.setArbitration r a).watchCode = s.watchCode := rfl
@[simp] theorem State.setArbitration_clipThreshold (r : ReturnId) (a : Arbitration) : (s.setArbitration r a).clipThreshold = s.clipThreshold := rfl
@[simp] theorem State.setArbitration_silenceThreshold (r : ReturnId) (a : Arbitration) : (s.setArbitration r a).silenceThreshold = s.silenceThreshold := rfl
@[simp] theorem State.setArbitration_silenceTime (r : ReturnId) (a : Arbitration) : (s.setArbitration r a).silenceTime = s.silenceTime := rfl
@[simp] theorem State.setArbitration_watchRemaining (r : ReturnId) (a : Arbitration) : (s.setArbitration r a).watchRemaining = s.watchRemaining := rfl
@[simp] theorem State.setArbitration_lossMark (r : ReturnId) (a : Arbitration) : (s.setArbitration r a).lossMark = s.lossMark := rfl
@[simp] theorem State.setArbitration_inReset (r : ReturnId) (a : Arbitration) : (s.setArbitration r a).inReset = s.inReset := rfl
@[simp] theorem State.setArbitration_pending (r : ReturnId) (a : Arbitration) : (s.setArbitration r a).pending = s.pending := rfl

/-! ## setKey writes keys alone -/

@[simp] theorem State.setKey_ports (n : KeyId) (k : Key) : (s.setKey n k).ports = s.ports := rfl
@[simp] theorem State.setKey_sources (n : KeyId) (k : Key) : (s.setKey n k).sources = s.sources := rfl
@[simp] theorem State.setKey_airFeed (n : KeyId) (k : Key) : (s.setKey n k).airFeed = s.airFeed := rfl
@[simp] theorem State.setKey_airDelay (n : KeyId) (k : Key) : (s.setKey n k).airDelay = s.airDelay := rfl
@[simp] theorem State.setKey_returns (n : KeyId) (k : Key) : (s.setKey n k).returns = s.returns := rfl
@[simp] theorem State.setKey_monitor (n : KeyId) (k : Key) : (s.setKey n k).monitor = s.monitor := rfl
@[simp] theorem State.setKey_conferences (n : KeyId) (k : Key) : (s.setKey n k).conferences = s.conferences := rfl
@[simp] theorem State.setKey_arbiter (n : KeyId) (k : Key) : (s.setKey n k).arbiter = s.arbiter := rfl
@[simp] theorem State.setKey_debounceTime (n : KeyId) (k : Key) : (s.setKey n k).debounceTime = s.debounceTime := rfl
@[simp] theorem State.setKey_cells (n : KeyId) (k : Key) : (s.setKey n k).cells = s.cells := rfl
@[simp] theorem State.setKey_queue (n : KeyId) (k : Key) : (s.setKey n k).queue = s.queue := rfl
@[simp] theorem State.setKey_inFlight (n : KeyId) (k : Key) : (s.setKey n k).inFlight = s.inFlight := rfl
@[simp] theorem State.setKey_programStep (n : KeyId) (k : Key) : (s.setKey n k).programStep = s.programStep := rfl
@[simp] theorem State.setKey_talkStep (n : KeyId) (k : Key) : (s.setKey n k).talkStep = s.talkStep := rfl
@[simp] theorem State.setKey_held (n : KeyId) (k : Key) : (s.setKey n k).held = s.held := rfl
@[simp] theorem State.setKey_assembly (n : KeyId) (k : Key) : (s.setKey n k).assembly = s.assembly := rfl
@[simp] theorem State.setKey_outFrame (n : KeyId) (k : Key) : (s.setKey n k).outFrame = s.outFrame := rfl
@[simp] theorem State.setKey_sync (n : KeyId) (k : Key) : (s.setKey n k).sync = s.sync := rfl
@[simp] theorem State.setKey_gap (n : KeyId) (k : Key) : (s.setKey n k).gap = s.gap := rfl
@[simp] theorem State.setKey_clips (n : KeyId) (k : Key) : (s.setKey n k).clips = s.clips := rfl
@[simp] theorem State.setKey_watchCode (n : KeyId) (k : Key) : (s.setKey n k).watchCode = s.watchCode := rfl
@[simp] theorem State.setKey_clipThreshold (n : KeyId) (k : Key) : (s.setKey n k).clipThreshold = s.clipThreshold := rfl
@[simp] theorem State.setKey_silenceThreshold (n : KeyId) (k : Key) : (s.setKey n k).silenceThreshold = s.silenceThreshold := rfl
@[simp] theorem State.setKey_silenceTime (n : KeyId) (k : Key) : (s.setKey n k).silenceTime = s.silenceTime := rfl
@[simp] theorem State.setKey_watchRemaining (n : KeyId) (k : Key) : (s.setKey n k).watchRemaining = s.watchRemaining := rfl
@[simp] theorem State.setKey_lossMark (n : KeyId) (k : Key) : (s.setKey n k).lossMark = s.lossMark := rfl
@[simp] theorem State.setKey_inReset (n : KeyId) (k : Key) : (s.setKey n k).inReset = s.inReset := rfl
@[simp] theorem State.setKey_pending (n : KeyId) (k : Key) : (s.setKey n k).pending = s.pending := rfl

/-! ## setRow writes cells alone -/

@[simp] theorem State.setRow_ports (ρ : Row) (cs : Vector Cell 32) : (s.setRow ρ cs).ports = s.ports := rfl
@[simp] theorem State.setRow_sources (ρ : Row) (cs : Vector Cell 32) : (s.setRow ρ cs).sources = s.sources := rfl
@[simp] theorem State.setRow_airFeed (ρ : Row) (cs : Vector Cell 32) : (s.setRow ρ cs).airFeed = s.airFeed := rfl
@[simp] theorem State.setRow_airDelay (ρ : Row) (cs : Vector Cell 32) : (s.setRow ρ cs).airDelay = s.airDelay := rfl
@[simp] theorem State.setRow_returns (ρ : Row) (cs : Vector Cell 32) : (s.setRow ρ cs).returns = s.returns := rfl
@[simp] theorem State.setRow_monitor (ρ : Row) (cs : Vector Cell 32) : (s.setRow ρ cs).monitor = s.monitor := rfl
@[simp] theorem State.setRow_conferences (ρ : Row) (cs : Vector Cell 32) : (s.setRow ρ cs).conferences = s.conferences := rfl
@[simp] theorem State.setRow_arbiter (ρ : Row) (cs : Vector Cell 32) : (s.setRow ρ cs).arbiter = s.arbiter := rfl
@[simp] theorem State.setRow_keys (ρ : Row) (cs : Vector Cell 32) : (s.setRow ρ cs).keys = s.keys := rfl
@[simp] theorem State.setRow_debounceTime (ρ : Row) (cs : Vector Cell 32) : (s.setRow ρ cs).debounceTime = s.debounceTime := rfl
@[simp] theorem State.setRow_queue (ρ : Row) (cs : Vector Cell 32) : (s.setRow ρ cs).queue = s.queue := rfl
@[simp] theorem State.setRow_inFlight (ρ : Row) (cs : Vector Cell 32) : (s.setRow ρ cs).inFlight = s.inFlight := rfl
@[simp] theorem State.setRow_programStep (ρ : Row) (cs : Vector Cell 32) : (s.setRow ρ cs).programStep = s.programStep := rfl
@[simp] theorem State.setRow_talkStep (ρ : Row) (cs : Vector Cell 32) : (s.setRow ρ cs).talkStep = s.talkStep := rfl
@[simp] theorem State.setRow_held (ρ : Row) (cs : Vector Cell 32) : (s.setRow ρ cs).held = s.held := rfl
@[simp] theorem State.setRow_assembly (ρ : Row) (cs : Vector Cell 32) : (s.setRow ρ cs).assembly = s.assembly := rfl
@[simp] theorem State.setRow_outFrame (ρ : Row) (cs : Vector Cell 32) : (s.setRow ρ cs).outFrame = s.outFrame := rfl
@[simp] theorem State.setRow_sync (ρ : Row) (cs : Vector Cell 32) : (s.setRow ρ cs).sync = s.sync := rfl
@[simp] theorem State.setRow_gap (ρ : Row) (cs : Vector Cell 32) : (s.setRow ρ cs).gap = s.gap := rfl
@[simp] theorem State.setRow_clips (ρ : Row) (cs : Vector Cell 32) : (s.setRow ρ cs).clips = s.clips := rfl
@[simp] theorem State.setRow_watchCode (ρ : Row) (cs : Vector Cell 32) : (s.setRow ρ cs).watchCode = s.watchCode := rfl
@[simp] theorem State.setRow_clipThreshold (ρ : Row) (cs : Vector Cell 32) : (s.setRow ρ cs).clipThreshold = s.clipThreshold := rfl
@[simp] theorem State.setRow_silenceThreshold (ρ : Row) (cs : Vector Cell 32) : (s.setRow ρ cs).silenceThreshold = s.silenceThreshold := rfl
@[simp] theorem State.setRow_silenceTime (ρ : Row) (cs : Vector Cell 32) : (s.setRow ρ cs).silenceTime = s.silenceTime := rfl
@[simp] theorem State.setRow_watchRemaining (ρ : Row) (cs : Vector Cell 32) : (s.setRow ρ cs).watchRemaining = s.watchRemaining := rfl
@[simp] theorem State.setRow_lossMark (ρ : Row) (cs : Vector Cell 32) : (s.setRow ρ cs).lossMark = s.lossMark := rfl
@[simp] theorem State.setRow_inReset (ρ : Row) (cs : Vector Cell 32) : (s.setRow ρ cs).inReset = s.inReset := rfl
@[simp] theorem State.setRow_pending (ρ : Row) (cs : Vector Cell 32) : (s.setRow ρ cs).pending = s.pending := rfl

/-! ## setClip writes clips alone -/

@[simp] theorem State.setClip_ports (r : ReturnId) (c : Clip) : (s.setClip r c).ports = s.ports := rfl
@[simp] theorem State.setClip_sources (r : ReturnId) (c : Clip) : (s.setClip r c).sources = s.sources := rfl
@[simp] theorem State.setClip_airFeed (r : ReturnId) (c : Clip) : (s.setClip r c).airFeed = s.airFeed := rfl
@[simp] theorem State.setClip_airDelay (r : ReturnId) (c : Clip) : (s.setClip r c).airDelay = s.airDelay := rfl
@[simp] theorem State.setClip_returns (r : ReturnId) (c : Clip) : (s.setClip r c).returns = s.returns := rfl
@[simp] theorem State.setClip_monitor (r : ReturnId) (c : Clip) : (s.setClip r c).monitor = s.monitor := rfl
@[simp] theorem State.setClip_conferences (r : ReturnId) (c : Clip) : (s.setClip r c).conferences = s.conferences := rfl
@[simp] theorem State.setClip_arbiter (r : ReturnId) (c : Clip) : (s.setClip r c).arbiter = s.arbiter := rfl
@[simp] theorem State.setClip_keys (r : ReturnId) (c : Clip) : (s.setClip r c).keys = s.keys := rfl
@[simp] theorem State.setClip_debounceTime (r : ReturnId) (c : Clip) : (s.setClip r c).debounceTime = s.debounceTime := rfl
@[simp] theorem State.setClip_cells (r : ReturnId) (c : Clip) : (s.setClip r c).cells = s.cells := rfl
@[simp] theorem State.setClip_queue (r : ReturnId) (c : Clip) : (s.setClip r c).queue = s.queue := rfl
@[simp] theorem State.setClip_inFlight (r : ReturnId) (c : Clip) : (s.setClip r c).inFlight = s.inFlight := rfl
@[simp] theorem State.setClip_programStep (r : ReturnId) (c : Clip) : (s.setClip r c).programStep = s.programStep := rfl
@[simp] theorem State.setClip_talkStep (r : ReturnId) (c : Clip) : (s.setClip r c).talkStep = s.talkStep := rfl
@[simp] theorem State.setClip_held (r : ReturnId) (c : Clip) : (s.setClip r c).held = s.held := rfl
@[simp] theorem State.setClip_assembly (r : ReturnId) (c : Clip) : (s.setClip r c).assembly = s.assembly := rfl
@[simp] theorem State.setClip_outFrame (r : ReturnId) (c : Clip) : (s.setClip r c).outFrame = s.outFrame := rfl
@[simp] theorem State.setClip_sync (r : ReturnId) (c : Clip) : (s.setClip r c).sync = s.sync := rfl
@[simp] theorem State.setClip_gap (r : ReturnId) (c : Clip) : (s.setClip r c).gap = s.gap := rfl
@[simp] theorem State.setClip_watchCode (r : ReturnId) (c : Clip) : (s.setClip r c).watchCode = s.watchCode := rfl
@[simp] theorem State.setClip_clipThreshold (r : ReturnId) (c : Clip) : (s.setClip r c).clipThreshold = s.clipThreshold := rfl
@[simp] theorem State.setClip_silenceThreshold (r : ReturnId) (c : Clip) : (s.setClip r c).silenceThreshold = s.silenceThreshold := rfl
@[simp] theorem State.setClip_silenceTime (r : ReturnId) (c : Clip) : (s.setClip r c).silenceTime = s.silenceTime := rfl
@[simp] theorem State.setClip_watchRemaining (r : ReturnId) (c : Clip) : (s.setClip r c).watchRemaining = s.watchRemaining := rfl
@[simp] theorem State.setClip_lossMark (r : ReturnId) (c : Clip) : (s.setClip r c).lossMark = s.lossMark := rfl
@[simp] theorem State.setClip_inReset (r : ReturnId) (c : Clip) : (s.setClip r c).inReset = s.inReset := rfl
@[simp] theorem State.setClip_pending (r : ReturnId) (c : Clip) : (s.setClip r c).pending = s.pending := rfl

/-! ## mark writes queue alone -/

@[simp] theorem State.mark_ports (ρ : Row) (talk : Bool) : (s.mark ρ talk).ports = s.ports := rfl
@[simp] theorem State.mark_sources (ρ : Row) (talk : Bool) : (s.mark ρ talk).sources = s.sources := rfl
@[simp] theorem State.mark_airFeed (ρ : Row) (talk : Bool) : (s.mark ρ talk).airFeed = s.airFeed := rfl
@[simp] theorem State.mark_airDelay (ρ : Row) (talk : Bool) : (s.mark ρ talk).airDelay = s.airDelay := rfl
@[simp] theorem State.mark_returns (ρ : Row) (talk : Bool) : (s.mark ρ talk).returns = s.returns := rfl
@[simp] theorem State.mark_monitor (ρ : Row) (talk : Bool) : (s.mark ρ talk).monitor = s.monitor := rfl
@[simp] theorem State.mark_conferences (ρ : Row) (talk : Bool) : (s.mark ρ talk).conferences = s.conferences := rfl
@[simp] theorem State.mark_arbiter (ρ : Row) (talk : Bool) : (s.mark ρ talk).arbiter = s.arbiter := rfl
@[simp] theorem State.mark_keys (ρ : Row) (talk : Bool) : (s.mark ρ talk).keys = s.keys := rfl
@[simp] theorem State.mark_debounceTime (ρ : Row) (talk : Bool) : (s.mark ρ talk).debounceTime = s.debounceTime := rfl
@[simp] theorem State.mark_cells (ρ : Row) (talk : Bool) : (s.mark ρ talk).cells = s.cells := rfl
@[simp] theorem State.mark_inFlight (ρ : Row) (talk : Bool) : (s.mark ρ talk).inFlight = s.inFlight := rfl
@[simp] theorem State.mark_programStep (ρ : Row) (talk : Bool) : (s.mark ρ talk).programStep = s.programStep := rfl
@[simp] theorem State.mark_talkStep (ρ : Row) (talk : Bool) : (s.mark ρ talk).talkStep = s.talkStep := rfl
@[simp] theorem State.mark_held (ρ : Row) (talk : Bool) : (s.mark ρ talk).held = s.held := rfl
@[simp] theorem State.mark_assembly (ρ : Row) (talk : Bool) : (s.mark ρ talk).assembly = s.assembly := rfl
@[simp] theorem State.mark_outFrame (ρ : Row) (talk : Bool) : (s.mark ρ talk).outFrame = s.outFrame := rfl
@[simp] theorem State.mark_sync (ρ : Row) (talk : Bool) : (s.mark ρ talk).sync = s.sync := rfl
@[simp] theorem State.mark_gap (ρ : Row) (talk : Bool) : (s.mark ρ talk).gap = s.gap := rfl
@[simp] theorem State.mark_clips (ρ : Row) (talk : Bool) : (s.mark ρ talk).clips = s.clips := rfl
@[simp] theorem State.mark_watchCode (ρ : Row) (talk : Bool) : (s.mark ρ talk).watchCode = s.watchCode := rfl
@[simp] theorem State.mark_clipThreshold (ρ : Row) (talk : Bool) : (s.mark ρ talk).clipThreshold = s.clipThreshold := rfl
@[simp] theorem State.mark_silenceThreshold (ρ : Row) (talk : Bool) : (s.mark ρ talk).silenceThreshold = s.silenceThreshold := rfl
@[simp] theorem State.mark_silenceTime (ρ : Row) (talk : Bool) : (s.mark ρ talk).silenceTime = s.silenceTime := rfl
@[simp] theorem State.mark_watchRemaining (ρ : Row) (talk : Bool) : (s.mark ρ talk).watchRemaining = s.watchRemaining := rfl
@[simp] theorem State.mark_lossMark (ρ : Row) (talk : Bool) : (s.mark ρ talk).lossMark = s.lossMark := rfl
@[simp] theorem State.mark_inReset (ρ : Row) (talk : Bool) : (s.mark ρ talk).inReset = s.inReset := rfl
@[simp] theorem State.mark_pending (ρ : Row) (talk : Bool) : (s.mark ρ talk).pending = s.pending := rfl

/-! ## raise writes ports alone -/

@[simp] theorem State.raise_sources (k : NoticeKind) (i : Nat) : (s.raise k i).sources = s.sources := rfl
@[simp] theorem State.raise_airFeed (k : NoticeKind) (i : Nat) : (s.raise k i).airFeed = s.airFeed := rfl
@[simp] theorem State.raise_airDelay (k : NoticeKind) (i : Nat) : (s.raise k i).airDelay = s.airDelay := rfl
@[simp] theorem State.raise_returns (k : NoticeKind) (i : Nat) : (s.raise k i).returns = s.returns := rfl
@[simp] theorem State.raise_monitor (k : NoticeKind) (i : Nat) : (s.raise k i).monitor = s.monitor := rfl
@[simp] theorem State.raise_conferences (k : NoticeKind) (i : Nat) : (s.raise k i).conferences = s.conferences := rfl
@[simp] theorem State.raise_arbiter (k : NoticeKind) (i : Nat) : (s.raise k i).arbiter = s.arbiter := rfl
@[simp] theorem State.raise_keys (k : NoticeKind) (i : Nat) : (s.raise k i).keys = s.keys := rfl
@[simp] theorem State.raise_debounceTime (k : NoticeKind) (i : Nat) : (s.raise k i).debounceTime = s.debounceTime := rfl
@[simp] theorem State.raise_cells (k : NoticeKind) (i : Nat) : (s.raise k i).cells = s.cells := rfl
@[simp] theorem State.raise_queue (k : NoticeKind) (i : Nat) : (s.raise k i).queue = s.queue := rfl
@[simp] theorem State.raise_inFlight (k : NoticeKind) (i : Nat) : (s.raise k i).inFlight = s.inFlight := rfl
@[simp] theorem State.raise_programStep (k : NoticeKind) (i : Nat) : (s.raise k i).programStep = s.programStep := rfl
@[simp] theorem State.raise_talkStep (k : NoticeKind) (i : Nat) : (s.raise k i).talkStep = s.talkStep := rfl
@[simp] theorem State.raise_held (k : NoticeKind) (i : Nat) : (s.raise k i).held = s.held := rfl
@[simp] theorem State.raise_assembly (k : NoticeKind) (i : Nat) : (s.raise k i).assembly = s.assembly := rfl
@[simp] theorem State.raise_outFrame (k : NoticeKind) (i : Nat) : (s.raise k i).outFrame = s.outFrame := rfl
@[simp] theorem State.raise_sync (k : NoticeKind) (i : Nat) : (s.raise k i).sync = s.sync := rfl
@[simp] theorem State.raise_gap (k : NoticeKind) (i : Nat) : (s.raise k i).gap = s.gap := rfl
@[simp] theorem State.raise_clips (k : NoticeKind) (i : Nat) : (s.raise k i).clips = s.clips := rfl
@[simp] theorem State.raise_watchCode (k : NoticeKind) (i : Nat) : (s.raise k i).watchCode = s.watchCode := rfl
@[simp] theorem State.raise_clipThreshold (k : NoticeKind) (i : Nat) : (s.raise k i).clipThreshold = s.clipThreshold := rfl
@[simp] theorem State.raise_silenceThreshold (k : NoticeKind) (i : Nat) : (s.raise k i).silenceThreshold = s.silenceThreshold := rfl
@[simp] theorem State.raise_silenceTime (k : NoticeKind) (i : Nat) : (s.raise k i).silenceTime = s.silenceTime := rfl
@[simp] theorem State.raise_watchRemaining (k : NoticeKind) (i : Nat) : (s.raise k i).watchRemaining = s.watchRemaining := rfl
@[simp] theorem State.raise_lossMark (k : NoticeKind) (i : Nat) : (s.raise k i).lossMark = s.lossMark := rfl
@[simp] theorem State.raise_inReset (k : NoticeKind) (i : Nat) : (s.raise k i).inReset = s.inReset := rfl
@[simp] theorem State.raise_pending (k : NoticeKind) (i : Nat) : (s.raise k i).pending = s.pending := rfl

/-! ## raiseSyncChange writes ports alone -/

@[simp] theorem State.raiseSyncChange_sources : (s.raiseSyncChange).sources = s.sources := rfl
@[simp] theorem State.raiseSyncChange_airFeed : (s.raiseSyncChange).airFeed = s.airFeed := rfl
@[simp] theorem State.raiseSyncChange_airDelay : (s.raiseSyncChange).airDelay = s.airDelay := rfl
@[simp] theorem State.raiseSyncChange_returns : (s.raiseSyncChange).returns = s.returns := rfl
@[simp] theorem State.raiseSyncChange_monitor : (s.raiseSyncChange).monitor = s.monitor := rfl
@[simp] theorem State.raiseSyncChange_conferences : (s.raiseSyncChange).conferences = s.conferences := rfl
@[simp] theorem State.raiseSyncChange_arbiter : (s.raiseSyncChange).arbiter = s.arbiter := rfl
@[simp] theorem State.raiseSyncChange_keys : (s.raiseSyncChange).keys = s.keys := rfl
@[simp] theorem State.raiseSyncChange_debounceTime : (s.raiseSyncChange).debounceTime = s.debounceTime := rfl
@[simp] theorem State.raiseSyncChange_cells : (s.raiseSyncChange).cells = s.cells := rfl
@[simp] theorem State.raiseSyncChange_queue : (s.raiseSyncChange).queue = s.queue := rfl
@[simp] theorem State.raiseSyncChange_inFlight : (s.raiseSyncChange).inFlight = s.inFlight := rfl
@[simp] theorem State.raiseSyncChange_programStep : (s.raiseSyncChange).programStep = s.programStep := rfl
@[simp] theorem State.raiseSyncChange_talkStep : (s.raiseSyncChange).talkStep = s.talkStep := rfl
@[simp] theorem State.raiseSyncChange_held : (s.raiseSyncChange).held = s.held := rfl
@[simp] theorem State.raiseSyncChange_assembly : (s.raiseSyncChange).assembly = s.assembly := rfl
@[simp] theorem State.raiseSyncChange_outFrame : (s.raiseSyncChange).outFrame = s.outFrame := rfl
@[simp] theorem State.raiseSyncChange_sync : (s.raiseSyncChange).sync = s.sync := rfl
@[simp] theorem State.raiseSyncChange_gap : (s.raiseSyncChange).gap = s.gap := rfl
@[simp] theorem State.raiseSyncChange_clips : (s.raiseSyncChange).clips = s.clips := rfl
@[simp] theorem State.raiseSyncChange_watchCode : (s.raiseSyncChange).watchCode = s.watchCode := rfl
@[simp] theorem State.raiseSyncChange_clipThreshold : (s.raiseSyncChange).clipThreshold = s.clipThreshold := rfl
@[simp] theorem State.raiseSyncChange_silenceThreshold : (s.raiseSyncChange).silenceThreshold = s.silenceThreshold := rfl
@[simp] theorem State.raiseSyncChange_silenceTime : (s.raiseSyncChange).silenceTime = s.silenceTime := rfl
@[simp] theorem State.raiseSyncChange_watchRemaining : (s.raiseSyncChange).watchRemaining = s.watchRemaining := rfl
@[simp] theorem State.raiseSyncChange_lossMark : (s.raiseSyncChange).lossMark = s.lossMark := rfl
@[simp] theorem State.raiseSyncChange_inReset : (s.raiseSyncChange).inReset = s.inReset := rfl
@[simp] theorem State.raiseSyncChange_pending : (s.raiseSyncChange).pending = s.pending := rfl

/-! ## answer writes ports alone -/

@[simp] theorem State.answer_sources (p : Port) (code : Byte) (a : Answer) : (s.answer p code a).sources = s.sources := rfl
@[simp] theorem State.answer_airFeed (p : Port) (code : Byte) (a : Answer) : (s.answer p code a).airFeed = s.airFeed := rfl
@[simp] theorem State.answer_airDelay (p : Port) (code : Byte) (a : Answer) : (s.answer p code a).airDelay = s.airDelay := rfl
@[simp] theorem State.answer_returns (p : Port) (code : Byte) (a : Answer) : (s.answer p code a).returns = s.returns := rfl
@[simp] theorem State.answer_monitor (p : Port) (code : Byte) (a : Answer) : (s.answer p code a).monitor = s.monitor := rfl
@[simp] theorem State.answer_conferences (p : Port) (code : Byte) (a : Answer) : (s.answer p code a).conferences = s.conferences := rfl
@[simp] theorem State.answer_arbiter (p : Port) (code : Byte) (a : Answer) : (s.answer p code a).arbiter = s.arbiter := rfl
@[simp] theorem State.answer_keys (p : Port) (code : Byte) (a : Answer) : (s.answer p code a).keys = s.keys := rfl
@[simp] theorem State.answer_debounceTime (p : Port) (code : Byte) (a : Answer) : (s.answer p code a).debounceTime = s.debounceTime := rfl
@[simp] theorem State.answer_cells (p : Port) (code : Byte) (a : Answer) : (s.answer p code a).cells = s.cells := rfl
@[simp] theorem State.answer_queue (p : Port) (code : Byte) (a : Answer) : (s.answer p code a).queue = s.queue := rfl
@[simp] theorem State.answer_inFlight (p : Port) (code : Byte) (a : Answer) : (s.answer p code a).inFlight = s.inFlight := rfl
@[simp] theorem State.answer_programStep (p : Port) (code : Byte) (a : Answer) : (s.answer p code a).programStep = s.programStep := rfl
@[simp] theorem State.answer_talkStep (p : Port) (code : Byte) (a : Answer) : (s.answer p code a).talkStep = s.talkStep := rfl
@[simp] theorem State.answer_held (p : Port) (code : Byte) (a : Answer) : (s.answer p code a).held = s.held := rfl
@[simp] theorem State.answer_assembly (p : Port) (code : Byte) (a : Answer) : (s.answer p code a).assembly = s.assembly := rfl
@[simp] theorem State.answer_outFrame (p : Port) (code : Byte) (a : Answer) : (s.answer p code a).outFrame = s.outFrame := rfl
@[simp] theorem State.answer_sync (p : Port) (code : Byte) (a : Answer) : (s.answer p code a).sync = s.sync := rfl
@[simp] theorem State.answer_gap (p : Port) (code : Byte) (a : Answer) : (s.answer p code a).gap = s.gap := rfl
@[simp] theorem State.answer_clips (p : Port) (code : Byte) (a : Answer) : (s.answer p code a).clips = s.clips := rfl
@[simp] theorem State.answer_watchCode (p : Port) (code : Byte) (a : Answer) : (s.answer p code a).watchCode = s.watchCode := rfl
@[simp] theorem State.answer_clipThreshold (p : Port) (code : Byte) (a : Answer) : (s.answer p code a).clipThreshold = s.clipThreshold := rfl
@[simp] theorem State.answer_silenceThreshold (p : Port) (code : Byte) (a : Answer) : (s.answer p code a).silenceThreshold = s.silenceThreshold := rfl
@[simp] theorem State.answer_silenceTime (p : Port) (code : Byte) (a : Answer) : (s.answer p code a).silenceTime = s.silenceTime := rfl
@[simp] theorem State.answer_watchRemaining (p : Port) (code : Byte) (a : Answer) : (s.answer p code a).watchRemaining = s.watchRemaining := rfl
@[simp] theorem State.answer_lossMark (p : Port) (code : Byte) (a : Answer) : (s.answer p code a).lossMark = s.lossMark := rfl
@[simp] theorem State.answer_inReset (p : Port) (code : Byte) (a : Answer) : (s.answer p code a).inReset = s.inReset := rfl
@[simp] theorem State.answer_pending (p : Port) (code : Byte) (a : Answer) : (s.answer p code a).pending = s.pending := rfl

/-! ## countRefusal writes returns alone -/

@[simp] theorem State.countRefusal_ports (r : ReturnId) : (s.countRefusal r).ports = s.ports := rfl
@[simp] theorem State.countRefusal_sources (r : ReturnId) : (s.countRefusal r).sources = s.sources := rfl
@[simp] theorem State.countRefusal_airFeed (r : ReturnId) : (s.countRefusal r).airFeed = s.airFeed := rfl
@[simp] theorem State.countRefusal_airDelay (r : ReturnId) : (s.countRefusal r).airDelay = s.airDelay := rfl
@[simp] theorem State.countRefusal_monitor (r : ReturnId) : (s.countRefusal r).monitor = s.monitor := rfl
@[simp] theorem State.countRefusal_conferences (r : ReturnId) : (s.countRefusal r).conferences = s.conferences := rfl
@[simp] theorem State.countRefusal_arbiter (r : ReturnId) : (s.countRefusal r).arbiter = s.arbiter := rfl
@[simp] theorem State.countRefusal_keys (r : ReturnId) : (s.countRefusal r).keys = s.keys := rfl
@[simp] theorem State.countRefusal_debounceTime (r : ReturnId) : (s.countRefusal r).debounceTime = s.debounceTime := rfl
@[simp] theorem State.countRefusal_cells (r : ReturnId) : (s.countRefusal r).cells = s.cells := rfl
@[simp] theorem State.countRefusal_queue (r : ReturnId) : (s.countRefusal r).queue = s.queue := rfl
@[simp] theorem State.countRefusal_inFlight (r : ReturnId) : (s.countRefusal r).inFlight = s.inFlight := rfl
@[simp] theorem State.countRefusal_programStep (r : ReturnId) : (s.countRefusal r).programStep = s.programStep := rfl
@[simp] theorem State.countRefusal_talkStep (r : ReturnId) : (s.countRefusal r).talkStep = s.talkStep := rfl
@[simp] theorem State.countRefusal_held (r : ReturnId) : (s.countRefusal r).held = s.held := rfl
@[simp] theorem State.countRefusal_assembly (r : ReturnId) : (s.countRefusal r).assembly = s.assembly := rfl
@[simp] theorem State.countRefusal_outFrame (r : ReturnId) : (s.countRefusal r).outFrame = s.outFrame := rfl
@[simp] theorem State.countRefusal_sync (r : ReturnId) : (s.countRefusal r).sync = s.sync := rfl
@[simp] theorem State.countRefusal_gap (r : ReturnId) : (s.countRefusal r).gap = s.gap := rfl
@[simp] theorem State.countRefusal_clips (r : ReturnId) : (s.countRefusal r).clips = s.clips := rfl
@[simp] theorem State.countRefusal_watchCode (r : ReturnId) : (s.countRefusal r).watchCode = s.watchCode := rfl
@[simp] theorem State.countRefusal_clipThreshold (r : ReturnId) : (s.countRefusal r).clipThreshold = s.clipThreshold := rfl
@[simp] theorem State.countRefusal_silenceThreshold (r : ReturnId) : (s.countRefusal r).silenceThreshold = s.silenceThreshold := rfl
@[simp] theorem State.countRefusal_silenceTime (r : ReturnId) : (s.countRefusal r).silenceTime = s.silenceTime := rfl
@[simp] theorem State.countRefusal_watchRemaining (r : ReturnId) : (s.countRefusal r).watchRemaining = s.watchRemaining := rfl
@[simp] theorem State.countRefusal_lossMark (r : ReturnId) : (s.countRefusal r).lossMark = s.lossMark := rfl
@[simp] theorem State.countRefusal_inReset (r : ReturnId) : (s.countRefusal r).inReset = s.inReset := rfl
@[simp] theorem State.countRefusal_pending (r : ReturnId) : (s.countRefusal r).pending = s.pending := rfl

/-! ## What a written record reads as -/

@[simp] theorem State.setSource_same (i : SourceId) (x : Source) : (s.setSource i x).sources[i] = x := by simp [State.setSource]

theorem State.setSource_read (i j : SourceId) (x : Source) :
    (s.setSource i x).sources[j] = if i = j then x else s.sources[j] := by
  simp [State.setSource, Vector.getElem_set, Fin.ext_iff]

@[simp] theorem State.setReturn_same (r : ReturnId) (x : Return) : (s.setReturn r x).returns[r] = x := by simp [State.setReturn]

theorem State.setReturn_read (r q : ReturnId) (x : Return) :
    (s.setReturn r x).returns[q] = if r = q then x else s.returns[q] := by
  simp [State.setReturn, Vector.getElem_set, Fin.ext_iff]

theorem State.setConference_read (k l : ConferenceId) (x : Conference) :
    (s.setConference k x).conferences[l] = if k = l then x else s.conferences[l] := by
  simp [State.setConference, Vector.getElem_set, Fin.ext_iff]

@[simp] theorem State.setArbitration_same (r : ReturnId) (a : Arbitration) : (s.setArbitration r a).arbiter[r] = a := by
  simp [State.setArbitration]

theorem State.setArbitration_read (r q : ReturnId) (a : Arbitration) :
    (s.setArbitration r a).arbiter[q] = if r = q then a else s.arbiter[q] := by
  simp [State.setArbitration, Vector.getElem_set, Fin.ext_iff]

@[simp] theorem State.setKey_same (n : KeyId) (k : Key) : (s.setKey n k).keys[n] = k := by simp [State.setKey]

theorem State.setKey_read (n m : KeyId) (k : Key) : (s.setKey n k).keys[m] = if n = m then k else s.keys[m] := by
  simp [State.setKey, Vector.getElem_set, Fin.ext_iff]

theorem State.setClip_read (r q : ReturnId) (c : Clip) : (s.setClip r c).clips[q] = if r = q then c else s.clips[q] := by
  simp [State.setClip, Vector.getElem_set, Fin.ext_iff]

theorem portIndex_injective (p q : Port) : portIndex p = portIndex q ↔ p = q := by cases p <;> cases q <;> decide

theorem rowIndex_injective (ρ σ : Row) : rowIndex ρ = rowIndex σ ↔ ρ = σ := by
  cases ρ <;> cases σ <;> simp [rowIndex, Fin.ext_iff] <;> omega

theorem State.setPort_read (p q : Port) (x : PortState) : (s.setPort p x).port q = if p = q then x else s.port q := by
  cases p <;> cases q <;> simp [State.setPort, State.port, portIndex]

@[simp] theorem State.setPort_same (p : Port) (x : PortState) : (s.setPort p x).port p = x := by simp [State.setPort_read]

theorem State.setPort_other {p q : Port} (h : p ≠ q) (x : PortState) : (s.setPort p x).port q = s.port q := by
  simp [State.setPort_read, h]

theorem State.setRow_read (ρ σ : Row) (cs : Vector Cell 32) : (s.setRow ρ cs).row σ = if ρ = σ then cs else s.row σ := by
  have h := rowIndex_injective ρ σ
  simp only [State.row, State.setRow, Fin.getElem_fin, Vector.getElem_set, Fin.ext_iff] at h ⊢
  by_cases hρ : ρ = σ <;> simp_all

@[simp] theorem State.setRow_same (ρ : Row) (cs : Vector Cell 32) : (s.setRow ρ cs).row ρ = cs := by simp [State.setRow_read]

/-- A record written twice holds what was written last. -/
theorem State.setSource_setSource (i : SourceId) (x y : Source) : (s.setSource i x).setSource i y = s.setSource i y := by
  simp [State.setSource]

theorem State.setKey_setKey (n : KeyId) (k l : Key) : (s.setKey n k).setKey n l = s.setKey n l := by simp [State.setKey]

theorem State.setPort_setPort (p : Port) (x y : PortState) : (s.setPort p x).setPort p y = s.setPort p y := by simp [State.setPort]

/-- Two states agree when their ports agree and everything else does. -/
theorem State.ports_ext {s t : State} (h : t = { s with ports := t.ports }) (hp : ∀ p, t.port p = s.port p) : t = s := by
  have hv : t.ports = s.ports := by
    apply Vector.ext
    intro i hi
    have h0 := hp .console
    have h1 := hp .screener
    have h2 := hp .talkback
    simp only [State.port, portIndex] at h0 h1 h2
    match i, hi with
    | 0, _ => exact h0
    | 1, _ => exact h1
    | 2, _ => exact h2
  rw [h, hv]

end Sys2Proof.Machine
end

