-- ==== Sys2Proof/Laws/Ops.lean ====
section
/-! SUPPORT. One lemma for each shared operation that says what it can do: how a command is taken, how an event comes about, how arguments
are read and lists checked, and what the table operations leave alone. -/

namespace Sys2Proof.Machine

/-! ## How a command is taken -/

/-- Where a port works the command, its owner takes it and the response is written (R162). -/
theorem State.perform_of_holds {s : State} {c : Instr} {p : Port} {code : Byte} {params : List Byte} (owner : State → State × Answer)
    (hf : commandFrame c = some { port := p, code := code, params := params }) (h : s.Holds p code params) :
    s.perform c owner = .next ((owner s).1.answer p code (owner s).2) := by
  simp [State.perform, hf, State.runCommand, h.awake, h.working]

/-- A completion by the block that owns the command: what the owner gives is the claimed state and answer. -/
theorem completes_of_owner {c : Instr} {p : Port} {code : Byte} {params : List Byte} {s t : State} {a : Answer}
    {owner : State → State × Answer} (he : exec c s = s.perform c owner)
    (hf : commandFrame c = some { port := p, code := code, params := params }) (ho : owner s = (t, a)) :
    Completes c p code params s t a := by
  intro h
  rw [he, State.perform_of_holds owner hf h, ho]

/-- A controller command's step: nothing in reset, an overrun at a slot that works another command, and otherwise its owner's event at the
state in which the slot works it, or the port's refusal of its frame (R158, R160, R162). -/
theorem State.runCommand_cases (s : State) (f : CommandFrame) (owner : State → State × Answer) :
    (s.inReset = true ∧ s.runCommand f owner = s) ∨
    (s.inReset = false ∧ ∃ t,
      (t = s ∨ t = s.arrive f.port f.bytes (frameBits f.bytes).length) ∧
      (((t.port f.port).slot = .working f.code f.params ∧
          s.runCommand f owner = (owner t).1.answer f.port f.code (owner t).2) ∨
        ((t.port f.port).slot ≠ .working f.code f.params ∧ s.runCommand f owner = t))) := by
  cases hr : s.inReset
  · refine .inr ⟨rfl, ?_⟩
    by_cases h : (s.port f.port).slot = .working f.code f.params
    · exact ⟨s, .inl rfl, .inl ⟨h, by simp [State.runCommand, hr, h]⟩⟩
    · refine ⟨s.arrive f.port f.bytes (frameBits f.bytes).length, .inr rfl, ?_⟩
      by_cases h' : ((s.arrive f.port f.bytes (frameBits f.bytes).length).port f.port).slot =
          .working f.code f.params
      · exact .inl ⟨h', by simp [State.runCommand, hr, h, h']⟩
      · exact .inr ⟨h', by simp [State.runCommand, hr, h, h']⟩
  · exact .inl ⟨rfl, by simp [State.runCommand, hr]⟩

/-- An arrival touches its port's slot, overrun flag and record of the data-out pin alone (R160). -/
theorem State.arrive_frame (s : State) (p : Port) (frame : List Byte) (clocked : Nat) :
    ∃ slot overrun, s.arrive p frame clocked =
      s.setPort p { s.port p with slot := slot, overrun := overrun, dataOut := List.replicate clocked false } := by
  unfold State.arrive
  dsimp only
  split <;> exact ⟨_, _, rfl⟩

/-! ## Transactions -/

@[simp] theorem byteBits_length (b : Byte) : (byteBits b).length = 8 := rfl

/-- A byte is read back from its bits (R158). -/
theorem bitsByte_byteBits (b : Byte) :
    bitsByte (b.getLsbD 7) (b.getLsbD 6) (b.getLsbD 5) (b.getLsbD 4) (b.getLsbD 3) (b.getLsbD 2) (b.getLsbD 1) (b.getLsbD 0) = b := by
  have h : ∀ n < 256, let b : Byte := BitVec.ofNat 8 n
      bitsByte (b.getLsbD 7) (b.getLsbD 6) (b.getLsbD 5) (b.getLsbD 4) (b.getLsbD 3) (b.getLsbD 2) (b.getLsbD 1) (b.getLsbD 0) = b := by
    decide +kernel
  simpa using h b.toNat b.isLt

@[simp] theorem wholeBytes_append (b : Byte) (bits : List Bool) : wholeBytes (byteBits b ++ bits) = b :: wholeBytes bits := by
  show bitsByte _ _ _ _ _ _ _ _ :: wholeBytes bits = _
  rw [bitsByte_byteBits]

/-- Fewer than eight bits hold no whole byte (R158). -/
theorem wholeBytes_short {bits : List Bool} (h : bits.length < 8) : wholeBytes bits = [] := by
  match bits, h with
  | [], _ | [_], _ | [_, _], _ | [_, _, _], _ | [_, _, _, _], _ | [_, _, _, _, _], _ | [_, _, _, _, _, _], _
  | [_, _, _, _, _, _, _], _ => rfl

/-- The whole bytes of a transaction are those sent, whatever bits of a last byte follow (R158). -/
theorem wholeBytes_bytes (bytes : List Byte) {tail : List Bool} (h : tail.length < 8) :
    wholeBytes (bytes.flatMap byteBits ++ tail) = bytes := by
  induction bytes with
  | nil => simpa using wholeBytes_short h
  | cons b bs ih => simp [ih]

/-- A COMMAND transaction is an arrival of its frame at the slot (R159). -/
theorem State.transact_command (s : State) (p : Port) (frame : List Byte) {tail : List Bool} (h : tail.length < 8) :
    s.transact p (frameBits frame ++ tail) = s.arrive p frame (frameBits frame ++ tail).length := by
  simp [State.transact, frameBits, wholeBytes_bytes frame h, directionOf]

/-- A FETCH transaction sends the response frame (R161). -/
theorem State.transact_fetch (s : State) (p : Port) (dataIn : List Byte) {tail : List Bool} (h : tail.length < 8) :
    s.transact p ((fetchDirection :: dataIn).flatMap byteBits ++ tail) =
      s.setPort p ((s.port p).fetched (8 * dataIn.length + tail.length)) := by
  have hd : directionOf fetchDirection = some .fetch := by decide
  have hl : ((fetchDirection :: dataIn).flatMap byteBits ++ tail).length - 8 = 8 * dataIn.length + tail.length := by
    simp [List.length_flatMap]
    omega
  unfold State.transact
  rw [wholeBytes_bytes _ h]
  simp only [hd, hl]

/-- A transaction without a direction byte that names one has no effect (R158). -/
theorem State.transact_none {s : State} {p : Port} {bits : List Bool} (h : noDirection bits = true) : s.transact p bits = s := by
  unfold noDirection at h
  unfold State.transact
  split <;> simp_all

/-! ## Lanes -/

@[simp] theorem Assembly.collects_iff (a : Assembly) : a.collects = true ↔ a ≠ .waiting := by cases a <;> simp [Assembly.collects]

/-- A bit period moves the frame assembly's count alone (R133). -/
theorem State.bitPeriod_frame (s : State) : s.bitPeriod = { s with assembly := s.bitPeriod.assembly } := by
  unfold State.bitPeriod
  split <;> rfl

/-- A frame arrival is taken where a frame is being collected, out of reset (R133, R142). -/
theorem exec_frameArrival_of {s : State} (slots : Vector SlotWord 32) (hr : s.inReset = false) (ha : s.assembly ≠ .waiting) :
    exec (.frameArrival slots) s = .next (s.takeFrame slots) := by
  simp [exec, execFrameArrival, State.whenever, hr, ha]

/-- The bits of an output slot: sample bit 23 first, then down to bit 0, then eight zeros (R173). -/
theorem outputSlot_bit (x : Sample) {k : Nat} (h : k < 32) :
    (outputSlot x).getLsbD (31 - k) = if k < 24 then x.getLsbD (23 - k) else false := by
  have hx : outputSlot x = x ++ (0#8) := rfl
  rw [hx, BitVec.getLsbD_append]
  split <;> split
  · omega
  · simp
  · congr 1
    omega
  · omega

/-- An event of the part happens whole, or nothing changes. -/
theorem State.whenever_cases (s : State) (condition : Bool) (event : State) :
    s.whenever condition event = .next s ∨
      (s.inReset = false ∧ condition = true ∧ s.whenever condition event = .next event) := by
  unfold State.whenever
  split
  · exact .inl rfl
  · split
    · exact .inr ⟨by simp_all, by assumption, rfl⟩
    · exact .inl rfl

/-- An event whose condition holds, out of reset. -/
theorem State.whenever_of {s : State} (event : State) (hr : s.inReset = false) : s.whenever true event = .next event := by
  simp [State.whenever, hr]

/-! ## Arguments and lists -/

/-- An index is read exactly where the byte names it (R169). -/
theorem indexArg_eq_some {n : Nat} {b : Byte} {i : Fin n} : indexArg n b = some i ↔ Names b i := by
  unfold indexArg Names
  split
  · simp [Fin.ext_iff]
  · simp only [reduceCtorEq, false_iff]
    omega

theorem indexArg_eq_none {n : Nat} {b : Byte} : indexArg n b = none ↔ n ≤ b.toNat := by
  unfold indexArg
  split <;> simp <;> omega

theorem byteOf_names {n : Nat} (i : Fin n) (h : n ≤ 256) : Names (byteOf i.val) i := by
  simp only [Names, byteOf, BitVec.toNat_ofNat]
  omega

/-- A list passes its checks where every entry does, each seeing its position and the entries before it (R7, R8, R29, R32). -/
theorem checkEntries_eq_none {α : Type} (check : Nat → List α → α → Option ResultCode) (pos : Nat) (seen es : List α) :
    checkEntries check pos seen es = none ↔
      ∀ n e, es[n]? = some e → check (pos + n) (seen ++ es.take n) e = none := by
  induction es generalizing pos seen with
  | nil => simp [checkEntries]
  | cons x xs ih =>
    cases hx : check pos seen x with
    | some r =>
      simp only [checkEntries, hx]
      constructor
      · intro h; cases h
      · intro h
        have := h 0 x (by simp)
        simp [hx] at this
    | none =>
      simp only [checkEntries, hx, ih]
      constructor
      · intro h n e hn
        cases n with
        | zero => simp at hn; subst hn; simpa using hx
        | succ n => have := h n e (by simpa using hn); simpa [Nat.add_assoc, Nat.add_comm 1 n] using this
      · intro h n e hn
        have := h (n + 1) e (by simpa using hn)
        simpa [Nat.add_assoc, Nat.add_comm 1 n] using this

/-- The first failing entry's position and code are the answer (R7, R8, R29, R32). -/
theorem checkEntries_eq_some {α : Type} (check : Nat → List α → α → Option ResultCode) (pos : Nat) (seen es : List α) (m : Nat)
    (r : ResultCode) :
    checkEntries check pos seen es = some (m, r) ↔
      ∃ n e, m = pos + n ∧ es[n]? = some e ∧ check (pos + n) (seen ++ es.take n) e = some r ∧
        ∀ k d, k < n → es[k]? = some d → check (pos + k) (seen ++ es.take k) d = none := by
  induction es generalizing pos seen with
  | nil => simp [checkEntries]
  | cons x xs ih =>
    cases hx : check pos seen x with
    | some r' =>
      simp only [checkEntries, hx]
      constructor
      · intro h
        obtain ⟨rfl, rfl⟩ : pos = m ∧ r' = r := by simpa using h
        exact ⟨0, x, by simp, by simp, by simpa using hx, by simp⟩
      · rintro ⟨n, e, rfl, hn, hc, hall⟩
        cases n with
        | zero =>
          simp only [List.getElem?_cons_zero, Option.some.injEq] at hn
          subst hn
          simp [hx] at hc
          simp [hc]
        | succ n =>
          have := hall 0 x (by omega) (by simp)
          simp [hx] at this
    | none =>
      simp only [checkEntries, hx, ih]
      constructor
      · rintro ⟨n, e, rfl, hn, hc, hall⟩
        refine ⟨n + 1, e, by omega, by simpa using hn, by simpa [Nat.add_assoc, Nat.add_comm 1 n] using hc, ?_⟩
        intro k d hk hd
        cases k with
        | zero => simp at hd; subst hd; simpa using hx
        | succ k =>
          have := hall k d (by omega) (by simpa using hd)
          simpa [Nat.add_assoc, Nat.add_comm 1 k] using this
      · rintro ⟨n, e, rfl, hn, hc, hall⟩
        cases n with
        | zero =>
          simp only [List.getElem?_cons_zero, Option.some.injEq] at hn
          subst hn
          simp [hx] at hc
        | succ n =>
          refine ⟨n, e, by omega, by simpa using hn, by simpa [Nat.add_assoc, Nat.add_comm 1 n] using hc, ?_⟩
          intro k d hk hd
          have := hall (k + 1) d (by omega) (by simpa using hd)
          simpa [Nat.add_assoc, Nat.add_comm 1 k] using this

/-! ## Loops over the tables -/

/-- What every round of a loop keeps, the loop keeps. -/
theorem foldl_keeps {α β : Type} (P : α → Prop) (f : α → β → α) (h : ∀ a b, P a → P (f a b)) (l : List β) (a : α) (ha : P a) :
    P (l.foldl f a) := by
  induction l generalizing a with
  | nil => exact ha
  | cons b l ih => exact ih (f a b) (h a b ha)

/-- Marking rows touches the queue alone (R110, R111). -/
theorem State.markRows_frame (s : State) (p : Row → Bool) : s.markRows p = { s with queue := (s.markRows p).queue } :=
  foldl_keeps (fun t : State => t = { s with queue := t.queue }) (fun t ρ => t.mark ρ false)
    (fun t ρ (ht : t = _) => by rw [State.mark, ht]) (rowOrder.filter p) s rfl

/-- Raising several notices touches the ports alone (R174). -/
theorem State.raiseEach_frame (s : State) (k : NoticeKind) (is : List Nat) :
    s.raiseEach k is = { s with ports := (s.raiseEach k is).ports } :=
  foldl_keeps (fun t : State => t = { s with ports := t.ports }) (fun t i => t.raise k i)
    (fun t i (ht : t = _) => by rw [State.raise, State.setPort, ht]) is s rfl

/-! ## Conferences -/

/-- A removal from a conference touches the sources, the conferences and the ports alone (R51, R52). -/
theorem State.exitConference_frame (s : State) (i : SourceId) :
    s.exitConference i = { s with
      sources := (s.exitConference i).sources, conferences := (s.exitConference i).conferences
      ports := (s.exitConference i).ports } := by
  unfold State.exitConference
  split <;> rfl

/-- A join touches the sources and the conferences alone (R47, R48). -/
theorem State.enterConference_frame (s : State) (i : SourceId) (k : ConferenceId) :
    s.enterConference i k = { s with
      sources := (s.enterConference i k).sources, conferences := (s.enterConference i k).conferences } := by
  unfold State.enterConference
  split <;> rfl

/-! ## The arbiter -/

/-- A refused request leaves the return's active request and pending list as they were (R59, R65). -/
theorem Arbitration.decide_refused {gone : Bool} {a b : Arbitration} {q : Request} {c : ResultCode}
    (h : a.decide gone q = (.refused c, b)) : b = a := by
  unfold Arbitration.decide at h
  split at h
  · simpa using (Prod.mk.inj h).2.symm
  · split at h
    · simpa using (Prod.mk.inj h).2.symm
    · split at h
      · simp at h
      · split at h
        · simp at h
        · split at h
          · simp at h
          · simpa using (Prod.mk.inj h).2.symm

/-- A request on one return touches the arbiter, the refusal counts, the queue and the ports alone (R59 to R65, R74). -/
theorem State.talkOn_frame (s : State) (r : ReturnId) (q : Request) :
    (s.talkOn r q).1 = { s with
      arbiter := (s.talkOn r q).1.arbiter, returns := (s.talkOn r q).1.returns
      queue := (s.talkOn r q).1.queue, ports := (s.talkOn r q).1.ports } := by
  unfold State.talkOn
  dsimp only
  split <;> rfl

/-- A release on one return touches the arbiter, the queue and the ports alone (R68, R69). -/
theorem State.releaseOn_frame (s : State) (r : ReturnId) (p : Request → Bool) :
    (s.releaseOn r p).1 = { s with
      arbiter := (s.releaseOn r p).1.arbiter, queue := (s.releaseOn r p).1.queue, ports := (s.releaseOn r p).1.ports } := by
  unfold State.releaseOn
  split
  · rfl
  · rename_i rel a _
    cases hw : rel.wasActive <;> cases hp : rel.promoted <;> rfl

/-- The removal of a lost listener's requests touches the arbiter, the queue and the ports alone (R73). -/
theorem State.listenerGone_frame (s : State) (r : ReturnId) :
    s.listenerGone r = { s with
      arbiter := (s.listenerGone r).arbiter, queue := (s.listenerGone r).queue, ports := (s.listenerGone r).ports } := by
  unfold State.listenerGone
  dsimp only
  split
  · rfl
  · split <;> rfl

/-- A hold expiry touches the arbiter, the queue and the ports alone (R71). -/
theorem State.expireHold_frame (s : State) (r : ReturnId) :
    s.expireHold r = { s with
      arbiter := (s.expireHold r).arbiter, queue := (s.expireHold r).queue, ports := (s.expireHold r).ports } := by
  unfold State.expireHold
  dsimp only
  split <;> rfl

/-- What the arbiter's operations may touch: the arbitration records, the return records (their refusal counts), the queue and the
ports. -/
def State.TalkScope (s t : State) : Prop :=
  t = { s with arbiter := t.arbiter, returns := t.returns, queue := t.queue, ports := t.ports }

theorem State.TalkScope.refl (s : State) : s.TalkScope s := rfl

theorem State.TalkScope.trans {s t u : State} (h : s.TalkScope t) (k : t.TalkScope u) : s.TalkScope u := by
  cases s; cases t; cases u
  simp_all [State.TalkScope]

theorem State.talkOn_scope (s : State) (r : ReturnId) (q : Request) : s.TalkScope (s.talkOn r q).1 := State.talkOn_frame s r q

theorem State.releaseOn_scope (s : State) (r : ReturnId) (p : Request → Bool) : s.TalkScope (s.releaseOn r p).1 := by
  unfold State.releaseOn
  split
  · rfl
  · rename_i rel a _
    cases hw : rel.wasActive <;> cases hp : rel.promoted <;> rfl

theorem State.listenerGone_scope (s : State) (r : ReturnId) : s.TalkScope (s.listenerGone r) := by
  unfold State.listenerGone
  dsimp only
  split
  · rfl
  · split <;> rfl

/-- A request refused on a return by its deaf mode, or decided (R85). -/
theorem State.visit_scope (s : State) (r : ReturnId) (q : Request) : s.TalkScope (s.visit r q).1 := by
  unfold State.visit
  split
  · exact State.talkOn_scope s r q
  · exact .refl s
  · rfl

/-- Releases on several returns stay in the arbiter's scope (R88, R97). -/
theorem State.releaseAll_scope (s : State) (p : Request → Bool) : s.TalkScope (s.releaseAll p).1 :=
  foldl_keeps (fun d : State × List (ReturnId × Released) => s.TalkScope d.1) _
    (fun d r hd => by
      have h := State.releaseOn_scope d.1 r p
      rcases hr : d.1.releaseOn r p with ⟨u, _ | rel⟩ <;> rw [hr] at h <;> exact hd.trans h)
    (List.finRange 24) (s, []) rfl

/-- A group TALK stays in the arbiter's scope (R85, R86). -/
theorem State.talkGroup_scope (s : State) (t : TagId) (q : Request) : s.TalkScope (s.talkGroup t q).1 :=
  foldl_keeps (fun d : State × List TalkEntry => s.TalkScope d.1) _
    (fun d r hd => by
      split
      · have h := State.visit_scope d.1 r q
        rcases hr : d.1.visit r q with ⟨u, _ | o⟩ <;> rw [hr] at h <;> exact hd.trans h
      · exact hd)
    (List.finRange 24) (s, []) rfl

/-- The removal of a source's listeners' requests stays in the arbiter's scope (R15, R16, R73). -/
theorem State.listenersGone_scope (s : State) (i : SourceId) : s.TalkScope (s.listenersGone i) :=
  foldl_keeps (fun t : State => s.TalkScope t) _
    (fun t r ht => by
      split
      · exact ht.trans (State.listenerGone_scope t r)
      · exact ht)
    (List.finRange 24) s rfl

/-- Only an empty list has nothing to pick from. -/
theorem pick_eq_none {beats : Request → Request → Bool} {l : List Request} : pick beats l = none ↔ l = [] := by
  cases l with
  | nil => simp [pick]
  | cons x xs => simp only [pick]; split <;> [simp; (split <;> simp)]

/-- A picked request and the rest are the list: the rest keeps its order (R62, R69). -/
theorem pick_splits {beats : Request → Request → Bool} {l rest : List Request} {b : Request} (h : pick beats l = some (b, rest)) :
    ∃ n, l[n]? = some b ∧ rest = l.eraseIdx n := by
  induction l generalizing b rest with
  | nil => simp [pick] at h
  | cons x xs ih =>
    simp only [pick] at h
    split at h
    · rename_i hn
      obtain ⟨rfl, rfl⟩ : x = b ∧ [] = rest := by simpa using h
      rw [pick_eq_none] at hn
      exact ⟨0, by simp, by simp [hn]⟩
    · rename_i c r hp
      split at h
      · obtain ⟨rfl, rfl⟩ : c = b ∧ x :: r = rest := by simpa using h
        obtain ⟨n, hn, hr⟩ := ih hp
        exact ⟨n + 1, by simpa using hn, by simp [hr]⟩
      · obtain ⟨rfl, rfl⟩ : x = b ∧ xs = rest := by simpa using h
        exact ⟨0, by simp, by simp⟩

/-- The promoted request comes from the pending list, and the rest of the list is a part of it (R69). -/
theorem promoted_sublist (l : List Request) : (promoted l).waiting.Sublist l ∧
    ∀ x, (promoted l).active = some x → x.request ∈ l ∧ x.remaining = holdLimit x.request.holdCode := by
  unfold promoted
  split
  · simp
  · rename_i q rest h
    obtain ⟨n, hn, rfl⟩ := pick_splits h
    refine ⟨List.eraseIdx_sublist .., ?_⟩
    rintro x hx
    obtain rfl : q.activate = x := by simpa using hx
    exact ⟨List.mem_of_getElem? hn, rfl⟩

/-! ## Frames -/

/-- The Level Monitor's silence detection touches the sources and the ports alone (R144 to R148). -/
theorem State.hearSource_frame (s : State) (x : Vector Sample 32) (i : SourceId) :
    s.hearSource x i = { s with sources := (s.hearSource x i).sources, ports := (s.hearSource x i).ports } := by
  unfold State.hearSource
  dsimp only
  split
  · split <;> rfl
  · rfl

/-- Clip counting touches the clip records and the ports alone (R150, R151). -/
theorem State.countClip_frame (s : State) (r : ReturnId) :
    s.countClip r = { s with clips := (s.countClip r).clips, ports := (s.countClip r).ports } := by
  unfold State.countClip
  dsimp only
  generalize (if s.clips[r].count < Config.maxClips then s.clips[r].count + 1 else s.clips[r].count) = n
  split <;> rfl

/-- What the Level Monitor's first two steps may touch: the sources, the clip records and the ports. -/
def State.MonitorScope (s t : State) : Prop := t = { s with sources := t.sources, clips := t.clips, ports := t.ports }

theorem State.MonitorScope.trans {s t u : State} (h : s.MonitorScope t) (k : t.MonitorScope u) : s.MonitorScope u := by
  cases s; cases t; cases u
  simp_all [State.MonitorScope]

theorem State.hearSource_scope (s : State) (x : Vector Sample 32) (i : SourceId) : s.MonitorScope (s.hearSource x i) := by
  unfold State.hearSource
  dsimp only
  split
  · split <;> rfl
  · rfl

theorem State.countClip_scope (s : State) (r : ReturnId) : s.MonitorScope (s.countClip r) := by
  unfold State.countClip
  dsimp only
  generalize (if s.clips[r].count < Config.maxClips then s.clips[r].count + 1 else s.clips[r].count) = n
  split <;> rfl

/-- The Level Monitor's first step (R144). -/
theorem State.hearAll_scope (s : State) (x : Vector Sample 32) : s.MonitorScope (s.hearAll x) :=
  foldl_keeps (fun t : State => s.MonitorScope t) _ (fun t i ht => ht.trans (State.hearSource_scope t x i))
    (List.finRange 32) s rfl

/-- The Level Monitor's second step (R144). -/
theorem State.countClips_scope (s : State) (flags : Vector Bool 24) : s.MonitorScope (s.countClips flags) :=
  foldl_keeps (fun t : State => s.MonitorScope t) _
    (fun t r ht => by
      split
      · exact ht.trans (State.countClip_scope t r)
      · exact ht)
    (List.finRange 24) s rfl

/-- The end of a watch interval touches the clip records, the timer, the loss mark and the ports alone (R153). -/
theorem State.closeInterval_frame (s : State) :
    s.closeInterval = { s with
      clips := s.closeInterval.clips, watchRemaining := s.closeInterval.watchRemaining, lossMark := s.closeInterval.lossMark
      ports := s.closeInterval.ports } := by
  have h := foldl_keeps (fun t : State => t = { s with ports := t.ports })
    (fun t (r : ReturnId) => if s.reportsClip r then t.raise .clipReport r.val else t)
    (fun t r (ht : t = _) => by
      split
      · rw [State.raise, State.setPort, ht]
      · exact ht)
    (List.finRange 24) s rfl
  unfold State.closeInterval
  rw [h]

/-- The retargeting of a cell never moves its current value (R113). -/
@[simp] theorem Cell.retarget_current (c : Cell) (target : Coeff) (step : Nat) : (c.retarget target step).current = c.current := by
  unfold Cell.retarget
  split <;> rfl

@[simp] theorem Cell.retarget_target (c : Cell) (target : Coeff) (step : Nat) : (c.retarget target step).target = target := by
  unfold Cell.retarget
  split <;> simp_all

/-- A ramp moves the current value alone (R120). -/
@[simp] theorem Cell.ramp_target (c : Cell) : c.ramp.target = c.target := rfl
@[simp] theorem Cell.ramp_step (c : Cell) : c.ramp.step = c.step := rfl

end Sys2Proof.Machine
end

