-- ==== Sys2Proof/Laws/PerInstr.lean ====
section
/-! SUPPORT. Statements for all commands, one lemma per constructor of Instr. FrameFits: the frame of a well-formed command holds at most the
250 parameter bytes of R164. -/

/-- The frame of a well-formed command holds at most 250 parameter bytes (R164). -/
def Sys2Proof.Laws.FrameFits.Statement (i : Sys2Proof.Instr) : Prop :=
  i.wellFormed = true → ∀ f, Sys2Proof.commandFrame i = some f → f.params.length ≤ 250

namespace Sys2Proof.Laws

/-- A frame whose parameters are written out fits (R164). -/
theorem fits_of_length {i : Instr} {f : CommandFrame} (h : commandFrame i = some f) (hl : f.params.length ≤ 250) :
    FrameFits.Statement i := by
  intro _ g hg
  rw [h, Option.some.injEq] at hg
  exact hg ▸ hl

/-- A step that no controller commands has no frame. -/
theorem fits_of_none {i : Instr} (h : commandFrame i = none) : FrameFits.Statement i := by
  intro _ g hg
  simp [h] at hg

end Sys2Proof.Laws

namespace Sys2Proof.Laws.FrameFits

open Machine (be16 be24)

theorem commandTransaction (port : Port) (frame : Clocked) : Statement (.commandTransaction port frame) := fits_of_none rfl
theorem fetch (port : Port) (dataIn : Clocked) : Statement (.fetch port dataIn) := fits_of_none rfl
theorem invalidTransaction (port : Port) (stray : Stray) : Statement (.invalidTransaction port stray) := fits_of_none rfl
theorem readSource (port : Port) (source : Byte) : Statement (.readSource port source) := fits_of_length rfl (by simp)
theorem readReturn (port : Port) (ret : Byte) : Statement (.readReturn port ret) := fits_of_length rfl (by simp)
theorem readConference (port : Port) (conference : Byte) : Statement (.readConference port conference) := fits_of_length rfl (by simp)
theorem readStatus (port : Port) : Statement (.readStatus port) := fits_of_length rfl (by simp)
theorem readKey (port : Port) (key : Byte) : Statement (.readKey port key) := fits_of_length rfl (by simp)
theorem acknowledge (port : Port) (kinds : Byte) : Statement (.acknowledge port kinds) := fits_of_length rfl (by simp)
theorem setNoticeMask (port : Port) (kinds : Byte) : Statement (.setNoticeMask port kinds) := fits_of_length rfl (by simp)
theorem readCell (port : Port) (row source : Byte) : Statement (.readCell port row source) := fits_of_length rfl (by simp)
theorem readWatch (port : Port) : Statement (.readWatch port) := fits_of_length rfl (by simp)
theorem setSourceKind (source kind : Byte) : Statement (.setSourceKind source kind) := fits_of_length rfl (by simp)
theorem setFaders (entries : List (Byte × Coeff)) : Statement (.setFaders entries) := by
  intro h f hf
  simp only [commandFrame, Option.some.injEq, Instr.wellFormed, decide_eq_true_eq] at h hf
  subst hf
  simpa [List.length_flatMap, be16, be24, Nat.mul_comm] using h
theorem setSourceOn (entries : List (Byte × Byte)) : Statement (.setSourceOn entries) := by
  intro h f hf
  simp only [commandFrame, Option.some.injEq, Instr.wellFormed, decide_eq_true_eq] at h hf
  subst hf
  simpa [List.length_flatMap, be16, be24, Nat.mul_comm] using h
theorem take (source : Byte) : Statement (.take source) := fits_of_length rfl (by simp)
theorem drop (source : Byte) : Statement (.drop source) := fits_of_length rfl (by simp)
theorem setReturn (entries : List (Byte × Coeff × BitVec 24 × Byte)) : Statement (.setReturn entries) := by
  intro h f hf
  simp only [commandFrame, Option.some.injEq, Instr.wellFormed, decide_eq_true_eq] at h hf
  subst hf
  simpa [List.length_flatMap, be16, be24, Nat.mul_comm] using h
theorem setMinusList (ret : Byte) (sources : List Byte) : Statement (.setMinusList ret sources) := by
  intro h f hf
  simp only [commandFrame, Option.some.injEq, Instr.wellFormed, decide_eq_true_eq] at h hf
  subst hf
  simpa [Nat.add_comm] using h
theorem clearReturn (ret : Byte) : Statement (.clearReturn ret) := fits_of_length rfl (by simp)
theorem setAirFeed (source : Byte) : Statement (.setAirFeed source) := fits_of_length rfl (by simp)
theorem setAirDelay (delay : BitVec 16) : Statement (.setAirDelay delay) := fits_of_length rfl (by simp [be16])
theorem setRampSteps (programStep talkStep : BitVec 16) :
    Statement (.setRampSteps programStep talkStep) := fits_of_length rfl (by simp [be16])
theorem setWatch (watchCode : Byte) (clipThreshold : BitVec 16) (silenceThreshold : BitVec 24) (silenceTime : Byte) :
    Statement (.setWatch watchCode clipThreshold silenceThreshold silenceTime) := fits_of_length rfl (by simp [be16, be24])
theorem selectMonitor (ret : Byte) : Statement (.selectMonitor ret) := fits_of_length rfl (by simp)
theorem attach (source : Byte) : Statement (.attach source) := fits_of_length rfl (by simp)
theorem detach (source : Byte) : Statement (.detach source) := fits_of_length rfl (by simp)
theorem screen (source : Byte) : Statement (.screen source) := fits_of_length rfl (by simp)
theorem park (source : Byte) : Statement (.park source) := fits_of_length rfl (by simp)
theorem markReady (source : Byte) : Statement (.markReady source) := fits_of_length rfl (by simp)
theorem attachReturn (ret source : Byte) : Statement (.attachReturn ret source) := fits_of_length rfl (by simp)
theorem join (source conference : Byte) : Statement (.join source conference) := fits_of_length rfl (by simp)
theorem leave (source : Byte) : Statement (.leave source) := fits_of_length rfl (by simp)
theorem setConference (conference : Byte) (gain bed : Coeff) :
    Statement (.setConference conference gain bed) := fits_of_length rfl (by simp [be16])
theorem talkDirect (originator : Byte) (ret : BitVec 7) (mode priority holdCode : Byte) :
    Statement (.talkDirect originator ret mode priority holdCode) := fits_of_length rfl (by simp)
theorem talkTag (originator : Byte) (tag : BitVec 7) (mode priority holdCode : Byte) :
    Statement (.talkTag originator tag mode priority holdCode) := fits_of_length rfl (by simp)
theorem releaseDirect (originator : Byte) (ret : BitVec 7) : Statement (.releaseDirect originator ret) := fits_of_length rfl (by simp)
theorem releaseTag (originator : Byte) (tag : BitVec 7) : Statement (.releaseTag originator tag) := fits_of_length rfl (by simp)
theorem setTalkLevel (source : Byte) (level : Coeff) : Statement (.setTalkLevel source level) := fits_of_length rfl (by simp [be16])
theorem setDipLevel (ret : Byte) (level : Coeff) : Statement (.setDipLevel ret level) := fits_of_length rfl (by simp [be16])
theorem setTags (ret tag0 tag1 tag2 deaf : Byte) : Statement (.setTags ret tag0 tag1 tag2 deaf) := fits_of_length rfl (by simp)
theorem bindKey (key originator target mode priority holdCode pressLevel keyMode : Byte) :
    Statement (.bindKey key originator target mode priority holdCode pressLevel keyMode) := fits_of_length rfl (by simp)
theorem unbindKey (key : Byte) : Statement (.unbindKey key) := fits_of_length rfl (by simp)
theorem clearRefusals (ret : Byte) : Statement (.clearRefusals ret) := fits_of_length rfl (by simp)
theorem setDebounce (time : Byte) : Statement (.setDebounce time) := fits_of_length rfl (by simp)
theorem frameArrival (slots : Vector SlotWord 32) : Statement (.frameArrival slots) := fits_of_none rfl
theorem silenceLimitReached (source : SourceId) (slots : Vector SlotWord 32) :
    Statement (.silenceLimitReached source slots) := fits_of_none rfl
theorem watchIntervalExpiry (slots : Vector SlotWord 32) : Statement (.watchIntervalExpiry slots) := fits_of_none rfl
theorem airExitGuardExpiry (source : SourceId) : Statement (.airExitGuardExpiry source) := fits_of_none rfl
theorem holdExpiry (ret : ReturnId) : Statement (.holdExpiry ret) := fits_of_none rfl
theorem shortFrame : Statement (.shortFrame) := fits_of_none rfl
theorem syncLoss : Statement (.syncLoss) := fits_of_none rfl
theorem keyLineChange (key : KeyId) (level : Level) : Statement (.keyLineChange key level) := fits_of_none rfl
theorem keyAcceptance (key : KeyId) : Statement (.keyAcceptance key) := fits_of_none rfl
theorem recomposeTake : Statement (.recomposeTake) := fits_of_none rfl
theorem recomposeCompletion : Statement (.recomposeCompletion) := fits_of_none rfl
theorem deviceReset : Statement (.deviceReset) := fits_of_none rfl
theorem deviceResetEnd : Statement (.deviceResetEnd) := fits_of_none rfl
theorem frameSyncRisingEdge : Statement (.frameSyncRisingEdge) := fits_of_none rfl

end Sys2Proof.Laws.FrameFits
end

