-- ==== Sys2Proof/Tests/Slice0.lean ====
section
/-! SUPPORT. Tests: ill-formed terms that WellFormed refuses, at most two one-step tests for each command with results taken from the
spec's rules and worked sequences, and a named witness for the hypotheses of every statement that has some. -/

namespace Sys2Proof.Tests

open Sys2Proof.Machine Sys2Proof.Claims

/-! ## WellFormed -/

theorem test_wellFormed_refuses_command_direction :
    (Instr.invalidTransaction .console ⟨byteBits 0x5A, false⟩).wellFormed = false := by decide
theorem test_wellFormed_refuses_fetch_direction :
    (Instr.invalidTransaction .screener ⟨byteBits 0xA5 ++ [true], false⟩).wellFormed = false := by decide
theorem test_wellFormed_refuses_a_whole_byte_as_tail :
    (Instr.commandTransaction .console ⟨[], byteBits 0⟩).wellFormed = false ∧
    (Instr.fetch .console ⟨[], byteBits 0⟩).wellFormed = false := by decide
theorem test_wellFormed_refuses_84_faders : (Instr.setFaders (List.replicate 84 (0, 0))).wellFormed = false := by decide
theorem test_wellFormed_refuses_126_on_states : (Instr.setSourceOn (List.replicate 126 (0, 0))).wellFormed = false := by decide +kernel
theorem test_wellFormed_refuses_36_returns : (Instr.setReturn (List.replicate 36 (0, 0, 0, 0))).wellFormed = false := by decide
theorem test_wellFormed_refuses_250_minus_sources : (Instr.setMinusList 0 (List.replicate 250 0)).wellFormed = false := by decide +kernel
theorem test_wellFormed_takes_the_longest_lists :
    (Instr.setFaders (List.replicate 83 (0, 0))).wellFormed = true ∧ (Instr.setSourceOn (List.replicate 125 (0, 0))).wellFormed = true ∧
    (Instr.setReturn (List.replicate 35 (0, 0, 0, 0))).wellFormed = true ∧
    (Instr.setMinusList 0 (List.replicate 249 0)).wellFormed = true ∧ (Instr.invalidTransaction .console ⟨[], false⟩).wellFormed = true := by
  decide +kernel

/-! ## Helpers -/

/-- A state whose port works a command. -/
def working (p : Port) (code : Byte) (params : List Byte) (s : State) : State :=
  s.setPort p { s.port p with slot := .working code params }

/-- The next state of a command. -/
def after (c : Instr) (s : State) : State :=
  match exec c s with
  | .next t => t
  | .fault _ => s
  | .refused _ => s

/-- The result and body of a port's response. -/
def response (s : State) (p : Port) : Option (ResultCode × List Byte) :=
  match (s.port p).slot with
  | .done _ r body => some (r, body)
  | .empty => none
  | .working _ _ => none

/-- The rows of the queue with their talk-cause flags; 24 is the program row. -/
def rows (s : State) : List (Nat × Bool) := s.queue.map fun e => ((rowIndex e.row).val, e.talk)

/-- A request on a return. -/
def request (o : SourceId) (target : Target) (via : Via) (mode : Mode) (pr : Fin 4) (code : Fin 8) (origin : Origin) : Request :=
  { originator := o, target := target, via := via, mode := mode, priority := pr, holdCode := code, origin := origin }

/-- A source of a kind in a stage. -/
def source (kind : Kind) (stage : Stage) (fader : Coeff) : Source := { Source.reset with kind := kind, stage := stage, fader := fader }

/-- A small studio: S0 a microphone that is ON and a member of K1; S5 a caller in HOLD on return 3 under a guard that is due; S7 a codec in
READY on return 6 and a member of K1; S9 a caller in AIR on return 9; S11 a VACANT caller; S20 and S21 talkback microphones; S30 the air
feed. Return 3 carries S20's request with S21's behind it, the latter from KEY2, bound to tag 2; return 3 carries tag 2. One command waits. -/
def studio : State :=
  { State.reset with
    sources := (((((((State.reset.sources.set 0 { source .studio .vacant 16384 with on := true, conference := some 1 }).set
      5 { source .caller .hold 16384 with guard := some 0 }).set
      7 { source .codec .ready 11585 with conference := some 1 }).set
      9 (source .caller .air 16384)).set 11 (source .caller .vacant 0)).set 20 (source .talkback .vacant 0)).set
      21 (source .talkback .vacant 0)).set 30 (source .air .vacant 0)
    airFeed := some 30
    airDelay := 8000
    returns := ((State.reset.returns.set 3 { Return.reset with attached := some 5, tags := #v[some 1, none, none] }).set
      6 { Return.reset with attached := some 7, minusList := [0, 5] }).set 9 { Return.reset with attached := some 9 }
    conferences := State.reset.conferences.set 1 { Conference.reset with members := [7, 0] }
    arbiter := State.reset.arbiter.set 3
      { active := some { request := request 20 (.ret 3) .direct .dip 1 2 .port, remaining := 0 }
        waiting := [request 21 (.tag 1) (.tag 1) .cut 1 1 (.key 2)] }
    keys := State.reset.keys.set 2
      { Key.reset with binding := some { originator := 21, target := .tag 1, mode := .cut, priority := 1, holdCode := 1 }
                       pressCounted := true, accepted := .low, line := .low }
    queue := [{ row := .ret 3, talk := false }]
    pending := [.recomposeTake] }

/-! ## The studio is lawful -/

/-- The arbitration record of return 3 in the studio. -/
def talk3 : Arbitration :=
  { active := some { request := request 20 (.ret 3) .direct .dip 1 2 .port, remaining := 0 }
    waiting := [request 21 (.tag 1) (.tag 1) .cut 1 1 (.key 2)] }

/-- The binding of KEY2 in the studio. -/
def bound2 : Binding := { originator := 21, target := .tag 1, mode := .cut, priority := 1, holdCode := 1 }

theorem studio_arbiter : ∀ r : ReturnId, studio.arbiter[r] = if r = 3 then talk3 else Arbitration.reset := by decide +kernel

theorem studio_bindings : ∀ n : KeyId, studio.keys[n].binding = if n = 2 then some bound2 else none := by decide +kernel

theorem studio_active {r : ReturnId} {x : Active} (h : studio.arbiter[r].active = some x) :
    r = 3 ∧ x = { request := request 20 (.ret 3) .direct .dip 1 2 .port, remaining := 0 } := by
  rw [studio_arbiter r] at h
  split at h
  · exact ⟨by assumption, by simpa [talk3] using h.symm⟩
  · simp [Arbitration.reset] at h

theorem studio_waiting {r : ReturnId} {q : Request} (h : q ∈ studio.arbiter[r].waiting) :
    q = request 21 (.tag 1) (.tag 1) .cut 1 1 (.key 2) := by
  rw [studio_arbiter r] at h
  split at h
  · simpa [talk3] using h
  · simp [Arbitration.reset] at h

theorem studio_arbiterLawful : studio.ArbiterLawful := by
  intro r
  rw [studio_arbiter r]
  split
  · exact
      { short := by decide
        distinct := by decide
        activeApart := by
          intro x hx
          obtain rfl : _ = x := by simpa [talk3] using hx
          decide
        backed := by intro h; simp [talk3] at h
        outranked := by
          intro x hx q hq
          obtain rfl : _ = x := by simpa [talk3] using hx
          obtain rfl : q = _ := by simpa [talk3] using hq
          decide }
  · exact { short := by decide, distinct := by decide, activeApart := by simp [Arbitration.reset], backed := by simp [Arbitration.reset]
            outranked := by simp [Arbitration.reset] }

theorem studio_conferencesLawful : studio.ConferencesLawful where
  short := by decide +kernel
  distinct := by decide +kernel
  agree := by decide +kernel
  admitted := by decide +kernel

theorem studio_tablesLawful : studio.TablesLawful where
  staged := by decide +kernel
  guarded := by decide +kernel
  attachedKind := by decide +kernel
  attachedOnce := by
    have h : ∀ r q : ReturnId, studio.returns[r].attached = studio.returns[q].attached → studio.returns[r].attached ≠ none → r = q := by
      decide +kernel
    exact fun r q i hr hq => h r q (hr.trans hq.symm) (by rw [hr]; simp)
  minusShort := by decide +kernel
  minusDistinct := by decide +kernel
  minusKind := by decide +kernel
  activeKind := by
    intro r x hx
    obtain ⟨rfl, rfl⟩ := studio_active hx
    decide
  waitingKind := by
    intro r q hq
    obtain rfl := studio_waiting hq
    decide
  bindingKind := by
    intro n b hb
    rw [studio_bindings n] at hb
    split at hb
    · obtain rfl : bound2 = b := by simpa using hb
      decide
    · simp at hb
  listening := by decide +kernel
  airFeedKind := by decide +kernel
  activeOwned := by
    intro r x n hx ho
    obtain ⟨rfl, rfl⟩ := studio_active hx
    simp [request] at ho
  waitingOwned := by
    intro r n q hq ho
    obtain rfl := studio_waiting hq
    obtain rfl : 2 = n := by simpa [request] using ho
    exact ⟨bound2, by decide, by decide⟩

theorem studio_lawful : studio.Lawful := ⟨studio_tablesLawful, studio_conferencesLawful, studio_arbiterLawful⟩

theorem studio_cells : ∀ (ρ : Row) (i : SourceId), (studio.row ρ)[i] = Cell.reset := by
  intro ρ i
  cases ρ <;> simp [studio, State.row, State.reset]

theorem studio_rangesLawful : studio.RangesLawful where
  guards := by
    have h : ∀ i : SourceId, ∀ n ∈ studio.sources[i].guard, n ≤ 1920000 := by decide +kernel
    exact fun i n hn => h i n hn
  silence := by decide +kernel
  airDelay := by decide
  ceilings := by decide +kernel
  refusals := by decide +kernel
  holds := by
    intro r x hx
    obtain ⟨rfl, rfl⟩ := studio_active hx
    decide
  debounce := by decide
  steps := by intro ρ i; rw [studio_cells]; decide
  programStep := by decide
  talkStep := by decide
  clips := by decide +kernel
  watchCode := by decide
  clipThreshold := by decide
  silenceThreshold := by decide
  silenceTime := by decide
  watchRemaining := by decide

theorem studio_slotsLawful : studio.SlotsLawful := by
  intro p
  cases p <;> exact ⟨fun _ => by decide, fun code params h => by simp [studio, State.port, portIndex, State.reset, PortState.reset] at h⟩

/-- The cells that hold the targets of the composition. -/
def composed (s : State) : Vector (Vector Cell 32) 25 :=
  Vector.ofFn fun j => Vector.ofFn fun i =>
    { Cell.reset with target := if h : j.val < 24 then s.targetOf (.ret ⟨j.val, h⟩) i else s.targetOf .program i }

theorem composed_target (s : State) (ρ : Row) (i : SourceId) : (composed s)[rowIndex ρ][i].target = s.targetOf ρ i := by
  cases ρ <;> simp [composed, rowIndex]

theorem lawful_of_cells {s : State} (h : s.Lawful) (cs : Vector (Vector Cell 32) 25) (q : List QueueEntry) (f : Option InFlight) :
    ({ s with cells := cs, queue := q, inFlight := f } : State).Lawful where
  tables := { h.tables with }
  conferences := { h.conferences with }
  arbiter := h.arbiter

theorem targetOf_of_cells (s : State) (cs : Vector (Vector Cell 32) 25) (q : List QueueEntry) (f : Option InFlight) (ρ : Row)
    (i : SourceId) : ({ s with cells := cs, queue := q, inFlight := f } : State).targetOf ρ i = s.targetOf ρ i := rfl

/-- A state with every row settled: no row queued or in flight, every target the one the composition gives. -/
def settle (s : State) : State := { s with cells := composed s, queue := [], inFlight := none }

theorem settle_settledLawful (s : State) : (settle s).SettledLawful where
  settled := by
    intro ρ _ _ i
    unfold settle
    rw [targetOf_of_cells]
    simpa only [State.row] using composed_target s ρ i
  landing := by
    intro f hf
    unfold settle at hf
    cases hf

/-! ## Transactions (chapter 10, worked sequence: the slot through an overrun) -/

theorem test_command_is_taken :
    ((after (.commandTransaction .console ⟨[0x23, 1, 5], [true]⟩) studio).port .console).slot = .working 0x23 [5] := by decide
theorem test_command_of_wrong_length_is_answered :
    response (after (.commandTransaction .console ⟨[0x21, 4, 0x05, 0x30, 0x00, 0x00], []⟩) studio) .console = some (.length, []) := by decide
theorem test_fetch_of_a_working_slot :
    ((after (.fetch .console ⟨[0, 0, 0, 0, 0, 0], []⟩) (working .console 0x23 [5] studio)).port .console).dataOut =
      ([0, 1, 0, 0x23, 0, 0, 0] : List Byte).flatMap byteBits := by decide
/-- The first five bits after the direction byte of a FETCH, of a DONE slot (R161). -/
theorem test_fetch_that_ends_early :
    ((after (.fetch .console ⟨[], List.replicate 7 true⟩) (after (.take 7) studio)).port .console).dataOut =
      List.replicate 14 false ++ [true] ∧
    ((after (.fetch .console ⟨[], []⟩) (after (.take 7) studio)).port .console).slot = .empty := by decide
theorem test_invalid_transaction : after (.invalidTransaction .console ⟨[true, false, true], false⟩) studio = studio ∧
    after (.invalidTransaction .console ⟨byteBits 0x5A, true⟩) studio = studio := by decide

/-! ## Reads and notices (R170, R177, chapter 11) -/

theorem test_read_source : response (after (.readSource .console 7) studio) .console =
    some (.ok, [7, 2, 3, 0x2D, 0x41, 0, 0x40, 0, 0, 0, 0, 0, 1, 0, 0, 0, 0]) := by decide
theorem test_read_return_out_of_range : response (after (.readReturn .screener 24) studio) .screener = some (.invalid, []) := by decide
theorem test_read_return : (response (after (.readReturn .console 6) studio) .console) =
    some (.ok, [6, 7, 2, 0x40, 0, 0x7F, 0xFF, 0xFF, 0, 0, 0, 0, 0x10, 0, 0, 0, 0, 0, 0, 2, 0, 5, 0, 0]) := by decide
theorem test_read_conference : response (after (.readConference .talkback 1) studio) .talkback =
    some (.ok, [1, 0x40, 0, 0x20, 0, 0, 2, 7, 6, 0, 0xFF]) := by decide
theorem test_read_status : response (after (.readStatus .talkback) studio) .talkback =
    some (.ok, [0, 1, 0xFF, 0, 0, 16, 0, 128, 30, 0x1F, 0x40, 5, 0xFF]) := by decide
theorem test_read_key : response (after (.readKey .console 2) studio) .console =
    some (.ok, [2, 1, 21, 0x82, 0, 1, 1, 0, 0, 0, 1, 0, 1, 0, 0, 0, 0, 0, 0, 0, 0]) := by decide
theorem test_read_cell : response (after (.readCell .console 24 5) studio) .console = some (.ok, [24, 5, 0, 0, 0, 0, 0, 16, 0]) := by decide
theorem test_read_watch : ((response (after (.readWatch .console) studio) .console).map fun x => (x.1, x.2.take 11)) =
    some (.ok, [2, 0xFF, 0xFF, 0, 1, 9, 10, 0, 0xBB, 0x80, 0]) := by decide
theorem test_acknowledge :
    response (after (.acknowledge .talkback 0x11)
      (((studio.raise .interruptStarted 5).raise .interruptStarted 16).raise .keyEvent 2)) .talkback =
    some (.ok, [0x11, 0, 1, 0, 0x20, 0, 0, 0, 0, 0, 0, 0, 0, 0, 0, 0, 0, 0, 0, 0, 4]) := by decide
theorem test_set_notice_mask : response (after (.setNoticeMask .screener 0x04) studio) .screener = some (.invalid, []) ∧
    ((after (.setNoticeMask .screener 0x83) studio).port .screener).mask = 0x83 := by decide

/-! ## Sources and settings (chapter 1, R131, R155) -/

theorem test_set_source_kind : (after (.setSourceKind 31 1) studio).sources[31].kind = .caller ∧
    response (after (.setSourceKind 20 1) studio) .console = some (.inUse, []) := by decide
theorem test_set_faders : (after (.setFaders [(0, 5), (9, 7)]) studio).sources[9].fader = 7 ∧
    response (after (.setFaders [(0, 5), (20, 7)]) studio) .console = some (.invalid, [1]) := by decide
theorem test_set_source_on : (after (.setSourceOn [(0, 0)]) studio).sources[0].on = false ∧
    response (after (.setSourceOn [(0, 0), (0, 1)]) studio) .console = some (.invalid, [1]) := by decide
theorem test_set_air_feed : (after (.setAirFeed 0xFF) studio).airFeed = none ∧ (rows (after (.setAirFeed 30) studio)).length = 24 := by
  decide
theorem test_set_air_delay : response (after (.setAirDelay 50000) studio) .console = some (.ok, [0x9C, 0x40]) := by decide
theorem test_set_ramp_steps : response (after (.setRampSteps 0 5000) studio) .console = some (.ok, [0, 1, 0x10, 0]) := by decide
theorem test_set_watch : response (after (.setWatch 8 0 0x800000 61) studio) .console =
    some (.ok, [7, 0, 1, 0x7F, 0xFF, 0xFF, 60]) := by decide
theorem test_set_debounce : (after (.setDebounce 0) studio).debounceTime = 1 ∧ (after (.setDebounce 33) studio).debounceTime = 32 := by
  decide

/-! ## Stages and conferences (chapters 1 and 3) -/

theorem test_attach : (after (.attach 11) studio).sources[11].stage = .screen ∧
    response (after (.attach 5) studio) .screener = some (.state, []) := by decide
theorem test_screen : (after (.screen 5) studio).sources[5].stage = .screen ∧ rows (after (.screen 7) studio) = [(3, false), (6, false)] := by
  decide
theorem test_park : (after (.park 7) studio).sources[7].stage = .hold ∧ response (after (.park 9) studio) .screener = some (.state, []) := by
  decide
theorem test_mark_ready : hasIndex ((after (.markReady 5) studio).port .console).notices.sets[1] 5 = true := by decide
theorem test_take : (after (.take 7) studio).sources[7].stage = .air ∧ (after (.take 7) studio).conferences[1].members = [0] ∧
    ((after (.take 7) studio).port .screener).notices.sets = #v[0x80, 0x80, 0, 0, 0] := by decide
theorem test_take_marks_every_row : (rows (after (.take 7) studio)).map Prod.fst =
    [3, 24, 0, 1, 2, 4, 5, 6, 7, 8, 9, 10, 11, 12, 13, 14, 15, 16, 17, 18, 19, 20, 21, 22, 23] := by decide
theorem test_drop : (after (.drop 9) studio).sources[9].guard = some 384000 ∧ (after (.drop 9) studio).sources[9].stage = .hold := by decide
theorem test_detach : (after (.detach 5) studio).arbiter[3] = { active := none, waiting := [] } ∧
    rows (after (.detach 5) studio) = [(3, true), (6, false)] := by decide
theorem test_forced_drop : ((after (.detach 9) studio).port .console).notices.sets = #v[0x200, 0, 0, 0, 0] := by decide
theorem test_guard_expiry : (after (.airExitGuardExpiry 5) studio).sources[5].guard = none ∧
    rows (after (.airExitGuardExpiry 5) studio) = [(3, false), (6, false)] := by decide
theorem test_join : (after (.join 5 1) studio).conferences[1].members = [7, 0, 5] ∧
    rows (after (.join 5 1) studio) = [(3, false), (6, false)] := by decide
theorem test_join_moves : (after (.join 7 2) studio).conferences[1].members = [0] ∧
    response (after (.join 7 2) studio) .screener = some (.ok, [1]) := by decide
theorem test_leave : (after (.leave 7) studio).sources[7].conference = none ∧
    response (after (.leave 5) studio) .screener = some (.notFound, []) := by decide
theorem test_set_conference : (after (.setConference 1 9 8) studio).conferences[1] = { members := [7, 0], gain := 9, bed := 8 } ∧
    rows (after (.setConference 1 9 8) studio) = [(3, false), (6, false)] := by decide

/-! ## Returns (chapter 2, R78, R82) -/

theorem test_set_return : ((after (.setReturn [(4, 7, 0x900000, 0)]) studio).returns[4]).ceiling = 8388607 ∧
    response (after (.setReturn [(4, 7, 9, 0), (5, 7, 9, 3)]) studio) .console = some (.invalid, [1]) := by decide
theorem test_set_minus_list : (after (.setMinusList 9 [7, 0]) studio).returns[9].minusList = [7, 0] ∧
    response (after (.setMinusList 9 [7, 0, 7]) studio) .console = some (.duplicate, [2]) := by decide
theorem test_clear_return : (after (.clearReturn 6) studio).returns[6].minusList = [] ∧
    (after (.clearReturn 6) studio).returns[6].attached = some 7 := by decide
theorem test_select_monitor : (after (.selectMonitor 23) studio).monitor = some 23 ∧
    response (after (.selectMonitor 24) studio) .console = some (.invalid, []) := by decide
theorem test_attach_return : (after (.attachReturn 3 11) studio).arbiter[3].active = none ∧
    response (after (.attachReturn 3 7) studio) .screener = some (.inUse, []) := by decide
/-- R28's fourth pair, with S7 in READY and free of its return 6 (log entry 20): ATTACH RETURN before TAKE, and after it. -/
def attachThenTake : State := after (.take 7) (after (.attachReturn 4 7) (after (.attachReturn 6 0xFF) studio))
def takeThenAttach : State := after (.attachReturn 4 7) (after (.take 7) (after (.attachReturn 6 0xFF) studio))
theorem test_attach_return_and_take : attachThenTake.sources[7].stage = .air ∧ attachThenTake.returns[4].attached = some 7 ∧
    (rows attachThenTake).any (·.1 == 4) ∧ (rows takeThenAttach).any (·.1 == 4) := by decide
theorem test_attach_return_and_take_agree : attachThenTake.sources = takeThenAttach.sources ∧
    attachThenTake.returns = takeThenAttach.returns ∧ attachThenTake.conferences = takeThenAttach.conferences := by decide
theorem test_set_dip_level : (after (.setDipLevel 6 5) studio).returns[6].dipLevel = 5 ∧
    rows (after (.setDipLevel 6 5) studio) = [(3, false), (6, false)] := by decide
theorem test_set_tags : response (after (.setTags 3 6 0 6 0) studio) .talkback = some (.duplicate, []) ∧
    response (after (.setTags 3 6 0 0 2) studio) .talkback = some (.ok, [2, 0, 0, 0]) := by decide
theorem test_clear_refusals :
    response (after (.clearRefusals 0) (studio.setReturn 0 { Return.reset with refusals := 255 })) .talkback =
      some (.ok, [0, 255]) := by decide

/-! ## Talkback and keys (chapters 4 and 5) -/

theorem test_talk_preempts : response (after (.talkDirect 20 3 1 3 0) (studio.setArbitration 3
      { active := some { request := request 21 (.ret 3) .direct .dip 1 2 .port, remaining := 9 }, waiting := [] })) .talkback =
    some (.ok, [0, 0, 21, 0xFF, 0]) := by decide
theorem test_talk_is_a_duplicate : response (after (.talkDirect 21 3 1 3 0) studio) .talkback = some (.duplicate, [0, 1]) := by decide
theorem test_talk_tag : response (after (.talkTag 20 2 1 1 3) studio) .talkback =
    some (.refused, [3, 0, 0, 0, 0, 0, 1, 3, 0x09, 0xFF, 0xFF, 0]) := by decide +kernel
theorem test_release_direct : response (after (.releaseDirect 20 3) studio) .talkback = some (.ok, [1, 21]) ∧
    (after (.releaseDirect 20 3) studio).arbiter[3] =
      { active := some { request := request 21 (.tag 1) (.tag 1) .cut 1 1 (.key 2), remaining := 192000 }, waiting := [] } := by decide
theorem test_release_tag : response (after (.releaseTag 21 2) studio) .talkback = some (.ok, [0, 1, 3, 0, 0xFF]) ∧
    response (after (.releaseTag 20 2) studio) .talkback = some (.notFound, []) := by decide +kernel
theorem test_set_talk_level : (after (.setTalkLevel 20 7) studio).sources[20].talkLevel = 7 ∧
    response (after (.setTalkLevel 5 7) studio) .talkback = some (.invalid, []) := by decide
theorem test_hold_expiry : (after (.holdExpiry 3) studio).arbiter[3].originator = some 21 ∧
    ((after (.holdExpiry 3) studio).port .talkback).notices.sets = #v[8, 8, 0, 0, 0] := by decide
theorem test_bind_key : response (after (.bindKey 2 20 5 0 0 9 1 1) studio) .talkback =
    some (.ok, [1, 21, 0x82, 0, 1, 1, 0, 1]) ∧ (after (.bindKey 2 20 5 0 0 9 1 1) studio).arbiter[3].waiting = [] := by decide +kernel
theorem test_unbind_key : response (after (.unbindKey 2) studio) .talkback = some (.ok, [0, 1]) ∧
    response (after (.unbindKey 3) studio) .talkback = some (.notFound, []) := by decide +kernel
theorem test_key_line_change : (after (.keyLineChange 3 .low) studio).keys[3].debounce = .waiting 5 ∧
    (after (.keyLineChange 2 .high) studio).keys[2].accepted = .low := by decide
theorem test_key_acceptance :
    (after (.keyAcceptance 2) (after (.keyLineChange 2 .high) studio)).keys[2].lastOutcome = .released 1 ∧
    ((after (.keyAcceptance 2) (after (.keyLineChange 2 .high) studio)).port .talkback).notices.sets = #v[0, 0, 0, 0, 4] := by decide +kernel

/-! ## Composition and mixing (chapters 6 and 7, the worked sequences) -/

theorem test_compose : compose 11585 13000 = 9192 ∧ compose 4096 13000 = 3250 ∧ compose 13000 4096 = 3250 ∧ compose 9192 4096 = 2298 ∧
    compose 65535 65535 = 65535 := by decide

/-- The rounding examples of chapter 7's worked cases. -/
theorem test_rounding : roundSum 12978804096 = 792163 ∧ roundSum (-21331198976) = -1301953 ∧ roundSum (-19603198976) = -1196484 ∧
    returnSample 1200000 (-1301953) = -1200000 ∧ returnSample 8388607 (-8388608) = -8388607 ∧ saturate 63999023 = 8388607 := by decide

/-- Return 3 settled on the program less S5, its current values at their targets (chapter 7, a settled mix). -/
def settledMix : State :=
  { studio with
    cells := State.reset.cells.set 3 (((State.reset.cells[3].set 0 ⟨16384, 16384, 16⟩).set 1 ⟨11585, 11585, 16⟩).set 8 ⟨4096, 4096, 16⟩) }

/-- The input samples of chapter 7's worked cases. -/
def mixSlots : Vector SlotWord 32 :=
  ((((Vector.replicate 32 0#32).set 0 (BitVec.append (1000000#24) (0#8))).set 1 (BitVec.append (BitVec.ofInt 24 (-400000)) (0#8))).set
    5 (BitVec.append (2000000#24) (0#8))).set 8 (BitVec.append (300001#24) (0#8))

/-- A state with a frame sync edge taken, so that a frame is being collected. -/
def edged (s : State) : State := after .frameSyncRisingEdge s

theorem test_frame_arrival : (after (.frameArrival mixSlots) (edged settledMix)).held[3] = 792163 ∧
    (after (.frameArrival mixSlots) (edged settledMix)).sync = .locked := by decide +kernel
theorem test_frame_arrival_needs_an_edge : after (.frameArrival mixSlots) settledMix = settledMix := by decide
theorem test_silence_limit :
    (after (.silenceLimitReached 5 (Vector.replicate 32 0))
      (edged (studio.setSource 5 { studio.sources[5] with silenceCount := 479999 }))).sources[5].silent = true := by decide +kernel
theorem test_watch_interval :
    (after (.watchIntervalExpiry (Vector.replicate 32 0)) (edged ({ studio with watchRemaining := 1 }.setClip 7 ⟨1500, 0, true⟩))).clips[7] =
      ⟨0, 1500, false⟩ := by decide +kernel
/-- The output frame of a sample of 0x800001 on return 9, lane 1 slot 1, whose first bit period is the 33rd (R173). -/
theorem test_frame_sync_edge :
    let s := edged { studio with held := studio.held.set 9 0x800001 }
    s.assembly = .collecting 0 ∧
    [31, 32, 33, 54, 55, 56, 63, 64].map (fun n => ({ s with assembly := .collecting n } : State).dataPin true 1) =
      [false, true, false, false, true, false, false, false] ∧
    ({ s with assembly := .collecting 32 } : State).dataPin false 1 = false := by decide +kernel
theorem test_bit_period : ({ studio with pending := [], assembly := .collecting 9 } : State).bitPeriod.assembly = .collecting 10 ∧
    State.reset.bitPeriod = State.reset := by decide
theorem test_short_frame : after .shortFrame studio = studio ∧
    (after .shortFrame { studio with assembly := .collecting 9 }).assembly = .collecting 0 := by decide
theorem test_sync_loss : (after .syncLoss { settledMix with sync := .locked, gap := some 1000 }).sync = .lost ∧
    ((after .syncLoss { settledMix with sync := .locked, gap := some 1000 }).row (.ret 3))[0] = ⟨16384, 0, 16⟩ := by decide

/-- Return 3 under the air feed's guard is demoted to the program less S5 (chapter 6, event 4). -/
theorem test_recompose_take : ((after .recomposeTake (studio.setArbitration 3 Arbitration.reset)).inFlight.map fun f =>
    (f.row, f.talk, f.targets[0], f.targets[5], f.targets[30])) = some (.ret 3, false, 16384, 0, 0) := by decide
theorem test_recompose_completion : ((after .recomposeCompletion (after .recomposeTake studio)).row (.ret 3))[20] = ⟨16384, 0, 16⟩ ∧
    (after .recomposeCompletion (after .recomposeTake studio)).inFlight = none := by decide
theorem test_device_reset : (after .deviceReset studio).sources[5] = Source.reset ∧ (after .deviceReset studio).inReset = true := by decide
theorem test_device_reset_end : (after .deviceResetEnd (after .deviceReset studio)).keys[2].debounce = .waiting 5 := by decide

/-! ## Witnesses: states and operands that meet the hypotheses of each statement, clause by clause, at the ends of their ranges -/

theorem working_holds {s : State} (p : Port) (code : Byte) (params : List Byte) (h : s.inReset = false) :
    (working p code params s).Holds p code params :=
  ⟨h, by simp [working]⟩

/-- The studio whose port works a command. -/
theorem studio_holds (p : Port) (code : Byte) (params : List Byte) : (working p code params studio).Holds p code params :=
  working_holds p code params rfl

theorem working_sources (p : Port) (code : Byte) (params : List Byte) (s : State) : (working p code params s).sources = s.sources := rfl

theorem test_witness_step : studio.pending = .recomposeTake :: [] ∧ ({ studio with pending := [] } : State).pending = [] ∧
    studio.assembly = .waiting ∧ (edged studio).inReset = false ∧ (edged studio).assembly = .collecting 0 := by decide

theorem test_witness_device_reset_end :
    (after .deviceReset studio).inReset = true ∧ studio.inReset = false ∧ (∀ n : KeyId, State.reset.keys[n].line = .high) ∧
    (Instr.shortFrame ≠ .deviceReset ∧ Instr.shortFrame ≠ .deviceResetEnd ∧ ∀ n l, Instr.shortFrame ≠ .keyLineChange n l) := by
  refine ⟨by decide, by decide, by decide, by decide, by decide, ?_⟩
  intro n l h
  cases h

theorem test_witness_frames_read_back :
    (Instr.setFaders (List.replicate 83 (31, 65535))).wellFormed = true ∧
    ((commandFrame (.setFaders (List.replicate 83 (31, 65535)))).map fun f => f.params.length) = some 249 ∧
    commandFrame (.talkTag 20 127 1 3 255) = some { port := .talkback, code := 0x40, params := [20, 255, 1, 3, 255] } := by
  decide +kernel

theorem test_witness_passed_frames :
    portCheck .screener [0x36, 2, 31, 3] = .passed 0x36 [31, 3] ∧ portCheck .console [0x21, 0] = .passed 0x21 [] := by decide

theorem test_witness_port_checks :
    (250 < (251 : Byte).toNat ∧ (250 : Byte).toNat ≤ 250 ∧ ([5] : List Byte).length ≠ (2 : Byte).toNat ∧
      ([5] : List Byte).length = (1 : Byte).toNat) ∧
    portCheck .console [0x0A, 1, 5] = .failed 0x0A .unknown ∧ portCheck .console [0x2D, 1, 5] = .failed 0x2D .unknown ∧
    portCheck .console [0x30, 1, 5] = .failed 0x30 .notOwner ∧ portCheck .talkback [0x2C, 1, 5] = .failed 0x2C .notOwner ∧
    (paramLengthFits 0x23 2 = false ∧ paramLengthFits 0x23 1 = true) := by decide

theorem test_witness_slots :
    (studio.port .console).slot = .empty ∧ ((working .console 0x23 [7] studio).port .console).slot = .working 0x23 [7] ∧
    ((after (.take 7) studio).port .console).slot = .done 0x23 .ok [] ∧ studio.inReset = false := by decide

theorem test_witness_arrival : commandFrame (.drop 9) = some { port := .console, code := 0x24, params := [9] } ∧
    (Instr.drop 9).wellFormed = true ∧ ((0x23 : Byte), ([7] : List Byte)) ≠ (0x24, [9]) ∧
    (∀ code params, (studio.port .console).slot ≠ .working code params) :=
  ⟨by decide, by decide, by decide, fun _ _ h => by simp [studio, State.port, portIndex, State.reset, PortState.reset] at h⟩

theorem test_witness_invalid_transaction : ([true] : List Bool).length < 8 ∧ (List.replicate 7 true).length < 8 ∧
    byteBits 0x5B ++ [true] = byteBits 0x5B ++ [true] ∧ (0x5B : Byte) ≠ 0x5A ∧ (0x5B : Byte) ≠ 0xA5 := by decide

theorem test_witness_signal_path : ∃ t, commandFrame (.take 7) = some { port := .console, code := 0x23, params := [7] } ∧
    exec (.take 7) studio = .next t := ⟨after (.take 7) studio, by decide, rfl⟩

theorem test_witness_refused : (working .console 0x23 [11] studio).Holds .console 0x23 [11] ∧
    response (after (.take 11) (working .console 0x23 [11] studio)) .console = some (.state, []) ∧
    response (after (.talkDirect 21 3 1 3 0) (working .talkback 0x40 [21, 3, 1, 3, 0] studio)) .talkback =
      some (.duplicate, [0, 1]) := ⟨studio_holds .., by decide, by decide⟩

theorem test_witness_reads : (working .screener 0x08 [24, 31] studio).Holds .screener 0x08 [24, 31] ∧
    (Names (31 : Byte) (31 : SourceId) ∧ 32 ≤ (32 : Byte).toNat) ∧ (Names (23 : Byte) (23 : ReturnId) ∧ 24 ≤ (24 : Byte).toNat) ∧
    (Names (3 : Byte) (3 : ConferenceId) ∧ 4 ≤ (4 : Byte).toNat) ∧ (Names (7 : Byte) (7 : KeyId) ∧ 8 ≤ (8 : Byte).toNat) ∧
    25 ≤ (25 : Byte).toNat :=
  ⟨studio_holds .., ⟨rfl, by decide⟩, ⟨rfl, by decide⟩, ⟨rfl, by decide⟩, ⟨rfl, by decide⟩, by decide⟩

theorem test_witness_reads_show : studio.Lawful ∧ studio.RangesLawful ∧ sourceBody studio 5 = sourceBody studio 5 ∧
    returnBody studio 3 = returnBody studio 3 ∧ conferenceBody studio 1 = conferenceBody studio 1 ∧
    statusBody studio .console = statusBody studio .console ∧ keyBody studio 2 = keyBody studio 2 ∧ watchBody studio = watchBody studio :=
  ⟨studio_lawful, studio_rangesLawful, rfl, rfl, rfl, rfl, rfl, rfl⟩

/-- Each base feed of the reads: return 3 in HOLD demoted, 6 and 9 on the program, 4 by its default feed SILENT, and 5 to a VACANT caller. -/
theorem test_witness_base_feeds : (Wants studio 3 .air ∧ Demoted studio 3) ∧ Wants studio 6 .program ∧ Wants studio 4 .silent ∧
    ¬ AtStage studio 3 .vacant ∧ AtStage (studio.setReturn 5 { Return.reset with attached := some 11 }) 5 .vacant ∧
    (returnBody studio 3)[16]? = some 0 ∧ (returnBody studio 3)[17]? = some 1 ∧ (returnBody studio 3)[18]? = some 1 ∧
    (keyBody studio 2)[10]? = some 1 := by
  refine ⟨⟨.inr ⟨5, by decide, by decide⟩, .inr ⟨5, .inr (by decide), .inr (by decide)⟩⟩, .inr (.inl ⟨7, by decide, by decide⟩),
    .inl (by decide), ?_, ⟨11, by decide, by decide⟩, by decide, by decide, by decide, by decide⟩
  rintro ⟨a, ha, hs⟩
  obtain rfl : 5 = a := by simpa [show studio.returns[3].attached = some 5 by decide] using ha
  exact absurd hs (by decide)

/-- A HOLD listener with an air feed and no guard takes the AIR base. -/
theorem test_witness_air_base : Wants (studio.setSource 5 { studio.sources[5] with guard := none }) 3 .air ∧
    ¬ Demoted (studio.setSource 5 { studio.sources[5] with guard := none }) 3 :=
  ⟨.inr ⟨5, by decide, by decide⟩, by unfold Demoted Minus; decide⟩

theorem test_witness_kind_sets : (0x9F : Byte) &&& 0x9F = 0x9F ∧ (0x20 : Byte) &&& 0x9F ≠ 0x20 ∧ (0x83 : Byte) &&& 0x83 = 0x83 ∧
    (0x04 : Byte) &&& 0x83 ≠ 0x04 ∧ (working .screener 0x06 [0x83] studio).Holds .screener 0x06 [0x83] :=
  ⟨by decide, by decide, by decide, by decide, studio_holds ..⟩

theorem test_witness_set_source_kind : Free studio 31 ∧ ¬ Free studio 20 ∧ Names (31 : Byte) (31 : SourceId) ∧
    (6 : Byte) = Kind.air.byte ∧ 32 ≤ (32 : Byte).toNat ∧ 7 ≤ (7 : Byte).toNat ∧
    (working .console 0x20 [31, 6] studio).Holds .console 0x20 [31, 6] := by
  refine ⟨⟨by decide, by decide, by decide, by decide +kernel, by decide, ?_, ?_, ?_, by decide⟩, ?_, rfl, by decide, by decide,
    by decide, studio_holds ..⟩
  · intro r x hx
    obtain ⟨rfl, rfl⟩ := studio_active hx
    decide
  · intro r q hq
    obtain rfl := studio_waiting hq
    decide
  · intro n b hb
    rw [studio_bindings n] at hb
    split at hb
    · obtain rfl : bound2 = b := by simpa using hb
      decide
    · simp at hb
  · intro h
    exact h.silentNow 3 { request := request 20 (.ret 3) .direct .dip 1 2 .port, remaining := 0 } (by decide) (by decide)

/-- A microphone or a caller passes SET FADERS; a repeated source at position 1 fails it. -/
theorem test_witness_set_faders : (∀ n, ¬ FaderFails studio [(0, 5)] n) ∧ FirstFailure (FaderFails studio [(0, 5), (0, 7)]) 1 ∧
    (working .console 0x21 [0, 0, 5] studio).Holds .console 0x21 [0, 0, 5] := by
  have first : ∀ es, es[0]? = some ((0 : Byte), (5 : Coeff)) → ¬ FaderFails studio es 0 := by
    rintro es h0 ⟨e, he, h⟩
    obtain rfl : (0, 5) = e := by simpa [h0] using he
    rcases h with h | h | ⟨m, d, hm, -⟩ | ⟨i, hi, hn⟩
    · omega
    · revert h; decide
    · omega
    · obtain rfl : (0 : SourceId) = i := Fin.ext hi
      exact hn (by decide)
  refine ⟨fun n => ?_, ⟨⟨(0, 7), by decide, .inr (.inr (.inl ⟨0, (0, 5), by decide, by decide, by decide⟩))⟩, fun m hm => ?_⟩,
    studio_holds ..⟩
  · cases n with
    | zero => exact first _ rfl
    | succ n => rintro ⟨e, he, -⟩; simp at he
  · obtain rfl : m = 0 := by omega
    exact first _ rfl

/-- The microphone S0 passes SET SOURCE ON; an on state of 2 fails it. -/
theorem test_witness_set_source_on : (∀ n, ¬ OnFails studio [(0, 1)] n) ∧ FirstFailure (OnFails studio [(0, 2)]) 0 ∧
    (working .console 0x22 [0, 1] studio).Holds .console 0x22 [0, 1] := by
  refine ⟨fun n => ?_, ⟨⟨(0, 2), by decide, .inr (.inr (.inr (.inl (by decide))))⟩, fun m hm => absurd hm (by omega)⟩, studio_holds ..⟩
  cases n with
  | succ n => rintro ⟨e, he, -⟩; simp at he
  | zero =>
    rintro ⟨e, he, h⟩
    obtain rfl : (0, 1) = e := by simpa using he
    rcases h with h | h | ⟨m, d, hm, -⟩ | h | ⟨i, hi, hn⟩
    · omega
    · revert h; decide
    · omega
    · revert h; decide
    · obtain rfl : (0 : SourceId) = i := Fin.ext hi
      exact hn (by decide)

theorem test_witness_air_feed : Names (30 : Byte) (30 : SourceId) ∧ studio.sources[30].kind = .air ∧
    ((0 : Byte) ≠ 0xFF ∧ ∀ i : SourceId, Names (0 : Byte) i → studio.sources[i].kind ≠ .air) ∧
    (working .console 0x28 [30] studio).Holds .console 0x28 [30] :=
  ⟨rfl, by decide, ⟨by decide, fun i hi => by obtain rfl : (0 : SourceId) = i := Fin.ext hi; decide⟩, studio_holds ..⟩

theorem test_witness_settings : (working .console 0x2A [0, 0, 0x10, 1] studio).Holds .console 0x2A [0, 0, 0x10, 1] ∧
    (working .talkback 0x48 [33] studio).Holds .talkback 0x48 [33] := ⟨studio_holds .., studio_holds ..⟩

theorem test_witness_stages : NoRemote studio 0 ∧ NoRemote studio 32 ∧
    (Names (11 : Byte) (11 : SourceId) ∧ Remote studio.sources[11] ∧ studio.sources[11].stage = .vacant) ∧
    (Names (5 : Byte) (5 : SourceId) ∧ Remote studio.sources[5] ∧ studio.sources[5].stage = .hold) ∧
    (Names (7 : Byte) (7 : SourceId) ∧ Remote studio.sources[7] ∧ studio.sources[7].stage = .ready) ∧
    (Names (9 : Byte) (9 : SourceId) ∧ Remote studio.sources[9] ∧ studio.sources[9].stage = .air) ∧
    (Remote (after (.screen 5) studio).sources[5] ∧ (after (.screen 5) studio).sources[5].stage = .screen) ∧
    (working .console 0x23 [7] studio).Holds .console 0x23 [7] ∧ (working .screener 0x31 [5] studio).Holds .screener 0x31 [5] := by
  refine ⟨fun i hi => ?_, fun i hi => ?_, ⟨rfl, by decide, by decide⟩, ⟨rfl, by decide, by decide⟩, ⟨rfl, by decide, by decide⟩,
    ⟨rfl, by decide, by decide⟩, ⟨by decide, by decide⟩, studio_holds .., studio_holds ..⟩
  · obtain rfl : (0 : SourceId) = i := Fin.ext hi
    decide
  · have := i.isLt
    simp only [Names] at hi
    have h32 : (32 : Byte).toNat = 32 := by decide
    omega

theorem test_witness_expiries : studio.inReset = false ∧ studio.sources[5].guard = some 0 ∧ studio.sources[7].guard ≠ some 0 ∧
    studio.arbiter[3].active = some { request := request 20 (.ret 3) .direct .dip 1 2 .port, remaining := 0 } ∧
    studio.arbiter[4].active = none := by decide

theorem test_witness_conferences :
    (¬ Joinable studio.sources[20] ∧ Joinable studio.sources[9] ∧ studio.sources[9].stage = .air) ∧
    (Joinable studio.sources[5] ∧ ¬ (Remote studio.sources[5] ∧ (studio.sources[5].stage = .vacant ∨ studio.sources[5].stage = .air))) ∧
    (5 ∉ studio.conferences[1].members ∧ 7 ∈ studio.conferences[1].members ∧ studio.conferences[1].members.length < 8) ∧
    studio.sources[7].conference = some 1 ∧ studio.sources[5].conference = none ∧ Names (3 : Byte) (3 : ConferenceId) ∧
    4 ≤ (4 : Byte).toNat ∧ (working .screener 0x36 [5, 3] studio).Holds .screener 0x36 [5, 3] :=
  ⟨by decide, by decide, by decide, by decide, by decide, rfl, by decide, studio_holds ..⟩

/-- A conference of eight refuses a ninth (R46 check 6). -/
theorem test_witness_full_conference :
    let s := studio.setConference 3 { Conference.reset with members := [0, 1, 2, 3, 4, 6, 8, 10] }
    5 ∉ s.conferences[3].members ∧ 8 ≤ s.conferences[3].members.length ∧ Joinable s.sources[5] := by decide

/-- A return at the top of the range passes SET RETURN; a feed value of 3 fails it. -/
theorem test_witness_set_return : (∀ n, ¬ ReturnFails [(23, 0, 0, 2)] n) ∧ FirstFailure (ReturnFails [(23, 0, 0, 3)]) 0 ∧
    (working .console 0x25 [23, 0, 0, 0, 0, 0, 2] studio).Holds .console 0x25 [23, 0, 0, 0, 0, 0, 2] := by
  refine ⟨fun n => ?_, ⟨⟨(23, 0, 0, 3), by decide, .inr (.inr (.inr (by decide)))⟩, fun m hm => absurd hm (by omega)⟩, studio_holds ..⟩
  cases n with
  | succ n => rintro ⟨e, he, -⟩; simp at he
  | zero =>
    rintro ⟨e, he, h⟩
    obtain rfl : (23, 0, 0, 2) = e := by simpa using he
    rcases h with h | h | ⟨m, d, hm, -⟩ | h
    · omega
    · revert h; decide
    · omega
    · revert h; decide

/-- Four sources fit an extra minus list; a fifth, a talkback microphone and a repeat do not. -/
theorem test_witness_minus_list :
    ([0, 5, 7, 9] : List Byte) = ([0, 5, 7, 9] : List SourceId).map (fun i => byteOf i.val) ∧ ([0, 5, 7, 9] : List SourceId).Nodup ∧
    (∀ i ∈ ([0, 5, 7, 9] : List SourceId), Joinable studio.sources[i]) ∧ 4 < ([0, 5, 7, 9, 11] : List Byte).length ∧
    MinusInvalid studio [20] 0 ∧ (MinusRepeats [7, 7] 1 ∧ ¬ MinusInvalid studio [7, 7] 1) ∧ Names (23 : Byte) (23 : ReturnId) ∧
    (working .console 0x26 [23, 0, 5, 7, 9] studio).Holds .console 0x26 [23, 0, 5, 7, 9] := by
  refine ⟨by decide, by decide, by decide, by decide, ⟨20, rfl, fun i hi => ?_⟩, ⟨⟨7, 0, rfl, by decide, rfl⟩, ?_⟩, rfl,
    studio_holds ..⟩
  · obtain rfl : (20 : SourceId) = i := Fin.ext hi
    decide
  · rintro ⟨b, hb, h⟩
    obtain rfl : (7 : Byte) = b := by simpa using hb
    exact h 7 rfl (by decide)

theorem test_witness_returns : Names (0 : Byte) (0 : ReturnId) ∧ Names (23 : Byte) (23 : ReturnId) ∧
    (24 ≤ (24 : Byte).toNat ∧ (24 : Byte) ≠ 0xFF) ∧ (working .console 0x2C [23] studio).Holds .console 0x2C [23] ∧
    (working .talkback 0x43 [23, 0, 5] studio).Holds .talkback 0x43 [23, 0, 5] :=
  ⟨rfl, rfl, by decide, studio_holds .., studio_holds ..⟩

theorem test_witness_attach_return : (Names (11 : Byte) (11 : SourceId) ∧ Remote studio.sources[11] ∧
      ∀ q : ReturnId, q ≠ 3 → studio.returns[q].attached ≠ some 11) ∧
    (Remote studio.sources[7] ∧ ∃ q : ReturnId, q ≠ 3 ∧ studio.returns[q].attached = some 7) ∧
    (studio.returns[3].attached = some 5 ∧ ∀ q : ReturnId, q ≠ 3 → studio.returns[q].attached ≠ some 5) ∧
    (working .screener 0x35 [3, 11] studio).Holds .screener 0x35 [3, 11] :=
  ⟨⟨rfl, by decide, by decide⟩, ⟨by decide, 6, by decide, by decide⟩, by decide, studio_holds ..⟩

/-- Preemption with and without a discard, a queued request, a full list, and the promotion that follows. -/
theorem test_witness_decisions :
    talk3.HasRequestOf 21 ∧ ¬ talk3.HasRequestOf 22 ∧ Arbitration.reset.active = none ∧
    (talk3.active = some { request := request 20 (.ret 3) .direct .dip 1 2 .port, remaining := 0 } ∧ talk3.waiting.length < 3) ∧
    ((1 : Fin 4) < 2 ∧ (1 : Fin 4) ≤ 1) ∧ 3 ≤ (List.replicate 3 (request 20 (.ret 3) .direct .dip 1 2 .port)).length ∧
    talk3.waiting ≠ [] := by
  refine ⟨.inr ⟨request 21 (.tag 1) (.tag 1) .cut 1 1 (.key 2), by simp [talk3], rfl⟩, ?_, rfl, by decide, by decide, by decide, by decide⟩
  rintro (⟨x, hx, ho⟩ | ⟨q, hq, ho⟩)
  · obtain rfl : _ = x := by simpa [talk3] using hx
    simp [request] at ho
  · obtain rfl : q = _ := by simpa [talk3] using hq
    simp [request] at ho

theorem studio_noOriginator : NoOriginator studio 5 := by
  intro i hi
  obtain rfl : (5 : SourceId) = i := Fin.ext hi
  decide

theorem test_witness_talk : NoOriginator studio 5 ∧ Names (20 : Byte) (20 : SourceId) ∧ studio.sources[20].kind = .talkback ∧
    ((23 : BitVec 7).toNat = (23 : ReturnId).val ∧ 24 ≤ (24 : BitVec 7).toNat) ∧
    ((15 : BitVec 7).toNat = (14 : TagId).val + 1 ∧ 16 ≤ (16 : BitVec 7).toNat) ∧
    (1 = Mode.dip.byte ∧ Names (3 : Byte) (3 : Fin 4) ∧ (7 : Fin 8).val = min (255 : Byte).toNat 7) ∧
    (2 ≤ (2 : Byte).toNat ∧ 4 ≤ (4 : Byte).toNat) ∧
    (decision studio 3 (request 21 (.ret 3) .direct .dip 3 7 .port)).1 = .refused .duplicate ∧
    (decision studio 3 (request 22 (.ret 3) .direct .dip 3 7 .port)).1 = .active (some 20) none ∧
    (decision studio 3 (request 22 (.ret 3) .direct .dip 1 7 .port)).1 = .queued 2 ∧
    (working .talkback 0x40 [20, 23, 1, 3, 255] studio).Holds .talkback 0x40 [20, 23, 1, 3, 255] :=
  ⟨studio_noOriginator, rfl, by decide, by decide, by decide, ⟨rfl, rfl, by decide⟩, by decide, by decide, by decide, by decide,
    studio_holds ..⟩

theorem test_witness_release : studio.arbiter[3].Lawful ∧
    (studio.arbiter[3].active = some { request := request 20 (.ret 3) .direct .dip 1 2 .port, remaining := 0 }) ∧
    (studio.arbiter[3].waiting[0]? = some (request 21 (.tag 1) (.tag 1) .cut 1 1 (.key 2))) ∧ ¬ studio.arbiter[4].HasRequestOf 20 ∧
    studio.ArbiterLawful ∧
    (0 < hits studio fun q => decide (q.originator = 21) && decide (q.via = .tag 1)) ∧
    (hits studio fun q => decide (q.originator = 20) && decide (q.via = .tag 1)) = 0 ∧
    (working .talkback 0x41 [20, 3] studio).Holds .talkback 0x41 [20, 3] := by
  refine ⟨studio_arbiterLawful 3, by decide, by decide, ?_, studio_arbiterLawful, by decide, by decide, studio_holds ..⟩
  rintro (⟨x, hx, -⟩ | ⟨q, hq, -⟩)
  · have h : studio.arbiter[4].active = none := by decide
    simp [h] at hx
  · have h : studio.arbiter[4].waiting = [] := by decide
    simp [h] at hq

theorem test_witness_talk_settings : NoOriginator studio 5 ∧ studio.sources[21].kind = .talkback ∧ Names (21 : Byte) (21 : SourceId) ∧
    (24 ≤ (254 : Byte).toNat ∧ (254 : Byte) ≠ 0xFF) ∧ (0x0F : Byte) = tagPositionByte (some 14) ∧ (0 : Byte) = tagPositionByte none ∧
    (2 : Byte) = DeafMode.refuse.byte ∧ (16 ≤ (16 : Byte).toNat ∧ 3 ≤ (3 : Byte).toNat) ∧
    (working .talkback 0x44 [23, 15, 0, 0, 2] studio).Holds .talkback 0x44 [23, 15, 0, 0, 2] :=
  ⟨studio_noOriginator, by decide, rfl, by decide, by decide, by decide, by decide, by decide, studio_holds ..⟩

theorem test_witness_keys : studio.Lawful ∧ Names (2 : Byte) (2 : KeyId) ∧ studio.keys[2].binding ≠ none ∧
    studio.keys[7].binding = none ∧ (0x8F : Byte) = (Target.tag 14).byte ∧ (23 : Byte) = (Target.ret 23).byte ∧
    (24 ≤ (24 : Byte).toNat ∧ (0x80 : Byte).toNat ≤ 0x80 ∧ 0x90 ≤ (0x90 : Byte).toNat) ∧
    (1 : Byte) = levelByte .high ∧ (1 : Byte) = KeyMode.latch.byte ∧
    (working .talkback 0x45 [2, 20, 0x8F, 1, 3, 9, 1, 1] studio).Holds .talkback 0x45 [2, 20, 0x8F, 1, 3, 9, 1, 1] :=
  ⟨studio_lawful, rfl, by decide, by decide, by decide, by decide, by decide, by decide, by decide, studio_holds ..⟩

theorem test_witness_key_lines : studio.inReset = false ∧ studio.keys[3].line = .high ∧ studio.keys[3].accepted = .high ∧
    studio.keys[2].line = .low ∧ (after (.keyLineChange 3 .low) studio).keys[3].line ≠ .high ∧
    (after (.keyLineChange 3 .low) studio).keys[3].accepted = .high := by decide

/-- A key record change keeps the laws where its binding stays, so a studio with any debounce state is lawful. -/
theorem lawful_of_key {s : State} (h : s.Lawful) (n : KeyId) (k : Key) (hk : k.binding = s.keys[n].binding) : (s.setKey n k).Lawful where
  tables :=
    { h.tables with
      bindingKind := by
        intro m b hb
        rw [State.setKey_read] at hb
        split at hb
        · rw [hk] at hb; exact h.tables.bindingKind n b hb
        · exact h.tables.bindingKind m b hb
      activeOwned := by
        intro r x m hx ho
        obtain ⟨b, hb, hbo⟩ := h.tables.activeOwned r x m hx ho
        refine ⟨b, ?_, hbo⟩
        rw [State.setKey_read]
        split
        · subst_vars; rw [hk]; exact hb
        · exact hb
      waitingOwned := by
        intro r m q hq ho
        obtain ⟨b, hb, hbo⟩ := h.tables.waitingOwned r m q hq ho
        refine ⟨b, ?_, hbo⟩
        rw [State.setKey_read]
        split
        · subst_vars; rw [hk]; exact hb
        · exact hb }
  conferences := { h.conferences with }
  arbiter := h.arbiter

/-- A waiting KEY2 in each mode and at each level of its line, and an unbound KEY3. -/
theorem test_witness_key_acceptances (line : Level) (mode : KeyMode) (counted : Bool) :
    let k : Key := { studio.keys[2] with line := line, keyMode := mode, pressCounted := counted, debounce := .waiting 1 }
    (studio.setKey 2 k).Lawful ∧ (studio.setKey 2 k).inReset = false ∧ (studio.setKey 2 k).keys[2] = k ∧
    keyHits (studio.setKey 2 k) bound2 ≠ 0 ∧ keyHits ((studio.setKey 2 k).setArbitration 3 Arbitration.reset) bound2 = 0 ∧
    k.binding = some bound2 ∧ k.pressLevel = .low ∧ studio.keys[3].binding = none ∧ studio.keys[3].debounce = .idle := by
  refine ⟨lawful_of_key studio_lawful 2 _ rfl, rfl, State.setKey_same .., ?_, ?_, ?_, ?_, by decide, by decide⟩
  · show keyHits studio bound2 ≠ 0
    decide
  · show keyHits (studio.setArbitration 3 Arbitration.reset) bound2 = 0
    decide
  · show studio.keys[2].binding = some bound2
    decide
  · show studio.keys[2].pressLevel = .low
    decide

theorem test_witness_frames : studio.inReset = false ∧ 1 ≤ studio.watchRemaining ∧ 1 < studio.watchRemaining ∧
    ({ studio with watchRemaining := 1 } : State).watchRemaining = 1 ∧ (Remote studio.sources[5] ∧ ¬ Remote studio.sources[20]) ∧
    studio.assembly = .waiting ∧ (edged studio).assembly ≠ .waiting ∧ 1 < (edged studio).watchRemaining ∧
    ({ studio with assembly := .collecting 255 } : State).assembly = .collecting 255 ∧
    studio.sync ≠ .locked ∧ ({ studio with sync := .locked } : State).sync = .locked := by decide

theorem test_witness_silence :
    let s := edged (studio.setSource 5 { studio.sources[5] with silenceCount := 479999 })
    (s.assembly ≠ .waiting ∧ Remote s.sources[5] ∧ s.sources[5].silent = false ∧ heardSilent s (Vector.replicate 32 0) 5 = true) ∧
    heardSilent studio (Vector.replicate 32 0) 5 = false := by decide

theorem test_witness_composer : studio.inFlight = none ∧ studio.queue = { row := .ret 3, talk := false } :: [] ∧
    ((after .recomposeTake studio).inFlight.map fun f => f.row) = some (.ret 3) ∧ (after .recomposeTake studio).queue = [] := by decide

/-- An output frame at its last bit period, on each lane. -/
theorem test_witness_pins : let s := { edged studio with assembly := .collecting 255 }
    s.inReset = false ∧ s.assembly = .collecting 255 ∧ s.outFrame = some (studio.held.map outputSlot) ∧
    (7 : Fin 32).val = 8 * (0 : Fin 4).val + 255 / 32 ∧ (31 : Fin 32).val = 8 * (3 : Fin 4).val + 255 / 32 := by decide +kernel

theorem test_witness_marks : studio.QueueLawful := by unfold State.QueueLawful; decide

/-- A source of return 6's minus set under a running guard, in a lawful state with every row settled. -/
theorem test_witness_minus_set : (settle studio).Lawful ∧ (settle studio).SettledLawful ∧ (settle studio).queued (.ret 6) = false ∧
    (settle studio).flying (.ret 6) = false ∧ 5 ∈ (settle studio).returns[6].minusList ∧ (settle studio).airFeed = some 30 ∧
    (settle studio).sources[5].guard ≠ none :=
  ⟨lawful_of_cells studio_lawful _ _ _, settle_settledLawful studio, rfl, rfl, by decide, by decide, by decide⟩

/-- Returns at each stage and feed of the six steps: 3 demoted under a guard and broken in on, 6 and 9 on the program, 6 in a conference. -/
theorem test_witness_six_steps : studio.Lawful ∧
    (studio.returns[3].attached = some 5 ∧ studio.sources[5].stage = .hold ∧ studio.sources[5].guard ≠ none) ∧
    (studio.returns[6].attached = some 7 ∧ 7 ∈ studio.conferences[1].members) ∧
    (studio.returns[4].attached = none ∧ studio.returns[4].defaultFeed = .silent) ∧ studio.arbiter[6].active = none :=
  ⟨studio_lawful, by decide, by decide, by decide, by decide⟩

theorem test_witness_arithmetic : 2 * |(16384 * 5 + 8191 : Int) - 16384 * 5| < 16384 ∧ (0 : Coeff).toNat ≤ (65535 : Coeff).toNat ∧
    1 ≤ 1 ∧ (Nat.dist 0 65535 + 1 - 1) / 1 ≤ 65535 ∧ 8388607 ≤ 8388607 := by decide

theorem studio_queueSlotsSync : studio.QueueLawful ∧ studio.SlotsLawful ∧ studio.SyncLawful :=
  ⟨test_witness_marks, studio_slotsLawful, ⟨by decide, by intro h; simp [studio, State.reset] at h⟩⟩

theorem studio_lanesLawful : (edged studio).LanesLawful := by
  have h0 : (edged studio).assembly = .collecting 0 := by decide
  refine ⟨fun n h => ?_, by decide⟩
  rw [h0] at h
  cases h
  decide

/-- KEY3's line has fallen, so a wait of the full debounce time runs beside the bound and pressed KEY2. -/
theorem studio_keysLawful : (after (.keyLineChange 3 .low) studio).KeysLawful where
  idle := fun _ => by decide
  waits := by
    intro n left h
    have key : ∀ n : KeyId, (after (.keyLineChange 3 .low) studio).keys[n].debounce = if n = 3 then .waiting 5 else .idle := by decide
    rw [key n] at h
    split at h
    · obtain rfl : 5 = left := by simpa using h
      decide
    · cases h
  counted := by decide

theorem test_witness_invariants : (edged studio).LanesLawful ∧ (after (.keyLineChange 3 .low) studio).KeysLawful ∧ studio.ArbiterLawful ∧ studio.ConferencesLawful ∧ studio.TablesLawful ∧ studio.RangesLawful ∧
    (studio.QueueLawful ∧ studio.SlotsLawful ∧ studio.SyncLawful) ∧ ((settle studio).Lawful ∧ (settle studio).SettledLawful) ∧
    (∃ t, step studio = .next t) ∧ ∃ t, step (settle studio) = .next t :=
  ⟨studio_lanesLawful, studio_keysLawful, studio_arbiterLawful, studio_conferencesLawful, studio_tablesLawful, studio_rangesLawful, studio_queueSlotsSync,
    ⟨lawful_of_cells studio_lawful _ _ _, settle_settledLawful studio⟩,
    ⟨after .recomposeTake { studio with pending := [] }, rfl⟩, ⟨after .recomposeTake { settle studio with pending := [] }, rfl⟩⟩

end Sys2Proof.Tests
end

section
/-! ## What marking rows and raising notices come to

The laws of the recompose queue (R110, R111) and of the notice maps (R174) as equations between whole states. -/

namespace Sys2Proof.Machine

/-- The queue after the rows of a list were marked one by one (R110). -/
def joinRows (q : List QueueEntry) (l : List Row) (talk : Bool) : List QueueEntry :=
  (q.map fun e => if e.row ∈ l then { e with talk := e.talk || talk } else e) ++
    (l.filter fun ρ => !q.any fun e => e.row == ρ).map fun ρ => { row := ρ, talk := talk }

theorem joinRows_nil (q : List QueueEntry) (talk : Bool) : joinRows q [] talk = q := by simp [joinRows]

/-- One mark of a row that is not among those marked so far adds it to the rows marked. -/
theorem joinRows_cons (q : List QueueEntry) {ρ : Row} {l : List Row} (talk : Bool) (h : ρ ∉ l) :
    joinRows (markQueue q ρ talk) l talk = joinRows q (ρ :: l) talk := by
  unfold markQueue
  split
  · next hq =>
    have hany : ∀ σ, ((q.map fun e => if e.row = ρ then { e with talk := e.talk || talk } else e).any fun e => e.row == σ) =
        q.any fun e => e.row == σ := by
      intro σ
      rw [List.any_map]
      congr 1
      funext e
      by_cases he : e.row = ρ <;> simp [he]
    simp only [joinRows, hany, List.map_map]
    congr 1
    · refine List.map_congr_left fun e _ => ?_
      by_cases he : e.row = ρ <;> simp [he, h]
    · simp [hq]
  · next hq =>
    have hne : ∀ e ∈ q, e.row ≠ ρ := by simpa using hq
    have hrest : (l.filter fun σ => !(q ++ [(⟨ρ, talk⟩ : QueueEntry)]).any fun e => e.row == σ) =
        l.filter fun σ => !q.any fun e => e.row == σ := by
      refine List.filter_congr fun σ hσ => ?_
      have : ρ ≠ σ := fun hρ => h (hρ ▸ hσ)
      simp [this]
    have hold : (q.map fun e => if e.row ∈ ρ :: l then { e with talk := e.talk || talk } else e) =
        q.map fun e => if e.row ∈ l then { e with talk := e.talk || talk } else e :=
      List.map_congr_left fun e he => by simp [hne e he]
    simp only [joinRows, hrest, hold]
    simp [hq, h]

theorem foldl_markQueue {l : List Row} (h : l.Nodup) (q : List QueueEntry) (talk : Bool) :
    l.foldl (fun q ρ => markQueue q ρ talk) q = joinRows q l talk := by
  induction l generalizing q with
  | nil => simp [joinRows_nil]
  | cons ρ l ih =>
    obtain ⟨hρ, hl⟩ := List.nodup_cons.mp h
    rw [List.foldl_cons, ih hl, joinRows_cons q talk hρ]

theorem mem_rowOrder (ρ : Row) : ρ ∈ rowOrder := by cases ρ <;> simp [rowOrder]

theorem rowOrder_nodup : rowOrder.Nodup := by decide

theorem joinRows_filter_rowOrder (q : List QueueEntry) (p : Row → Bool) (talk : Bool) :
    joinRows q (rowOrder.filter p) talk = joinQueue q p talk := by
  simp [joinRows, joinQueue, mem_rowOrder, List.filter_filter, Bool.and_comm]

/-- The rows of an event join the queue in row order (R110, R111). -/
theorem State.markRows_eq (s : State) (p : Row → Bool) : s.markRows p = { s with queue := joinQueue s.queue p false } := by
  have h : ∀ (l : List Row) (t : State),
      l.foldl (fun t ρ => t.mark ρ false) t = { t with queue := l.foldl (fun q ρ => markQueue q ρ false) t.queue } := by
    intro l
    induction l with
    | nil => intro t; rfl
    | cons ρ l ih => intro t; rw [List.foldl_cons, ih]; rfl
  rw [State.markRows, h, foldl_markQueue (rowOrder_nodup.filter _), joinRows_filter_rowOrder]

/-- One mark is the join of that row alone (R110). -/
theorem markQueue_eq (q : List QueueEntry) (ρ : Row) (talk : Bool) :
    markQueue q ρ talk = joinQueue q (fun σ => decide (σ = ρ)) talk := by
  have hρ : rowOrder.filter (fun σ => decide (σ = ρ)) = [ρ] := by
    rw [List.filter_eq, List.count_eq_one_of_mem rowOrder_nodup (mem_rowOrder ρ), List.replicate_one]
  rw [← joinRows_filter_rowOrder, hρ, ← joinRows_cons q talk List.not_mem_nil, joinRows_nil]

theorem State.mark_ret (s : State) (r : ReturnId) (talk : Bool) :
    s.mark (.ret r) talk = { s with queue := joinQueue s.queue (onlyReturn r) talk } := by
  rw [State.mark, markQueue_eq]
  rfl

/-! ### Notices -/

/-- A port with one index added to the set of one of its kinds (R174). -/
def PortState.noted (q : PortState) (b : Fin 5) (i : Nat) : PortState :=
  { q with notices := { q.notices with sets := q.notices.sets.set b (addIndex q.notices.sets[b] i) } }

theorem State.raise_port (s : State) (k : NoticeKind) (i : Nat) (p : Port) :
    (s.raise k i).port p = if k.port = p then (s.port p).noted k.bit i else s.port p := by
  rw [State.raise, State.setPort_read]
  split
  · next h => subst h; rfl
  · rfl

theorem PortState.noted_comm (q : PortState) (b c : Fin 5) (i j : Nat) :
    (q.noted b i).noted c j = (q.noted c j).noted b i := by
  unfold PortState.noted
  by_cases h : b = c
  · subst h
    simp [addIndex, BitVec.or_assoc, BitVec.or_comm (BitVec.twoPow 32 i)]
  · have hv : b.val ≠ c.val := fun hv => h (Fin.ext hv)
    simp [hv, hv.symm, Vector.set_comm _ _ hv]

/-- Notices raised in one event may be raised in either order (R174). -/
theorem State.raise_comm (s : State) (k l : NoticeKind) (i j : Nat) :
    (s.raise k i).raise l j = (s.raise l j).raise k i := by
  refine State.ports_ext rfl fun p => ?_
  simp only [State.raise_port]
  split <;> split <;> simp [PortState.noted_comm]

theorem State.raiseEach_raise (s : State) (k l : NoticeKind) (i : Nat) (is : List Nat) :
    (s.raise k i).raiseEach l is = (s.raiseEach l is).raise k i := by
  induction is generalizing s with
  | nil => rfl
  | cons j is ih =>
    show ((s.raise k i).raise l j).raiseEach l is = ((s.raise l j).raiseEach l is).raise k i
    rw [State.raise_comm, ih]

end Sys2Proof.Machine

namespace Sys2Proof.Machine

/-! ### The requests of lost listeners -/

theorem State.raiseEach_tables (s : State) (k : NoticeKind) (is : List Nat) (a : Vector Arbitration 24) (q : List QueueEntry) :
    { s.raiseEach k is with arbiter := a, queue := q } = State.raiseEach { s with arbiter := a, queue := q } k is := by
  induction is generalizing s with
  | nil => rfl
  | cons i is ih => exact ih (s.raise k i)

theorem State.raiseEach_arbiter (s : State) (k : NoticeKind) (is : List Nat) : (s.raiseEach k is).arbiter = s.arbiter := by
  rw [State.raiseEach_frame]

theorem State.raiseEach_queue (s : State) (k : NoticeKind) (is : List Nat) : (s.raiseEach k is).queue = s.queue := by
  rw [State.raiseEach_frame]

theorem State.raiseEach_append (s : State) (k : NoticeKind) (is js : List Nat) :
    (s.raiseEach k is).raiseEach k js = s.raiseEach k (is ++ js) := by
  simp [State.raiseEach]

/-- Whether a return holds a request, active or pending (R73). -/
def Arbitration.held (a : Arbitration) : Bool := a.active.isSome || !a.waiting.isEmpty

theorem Arbitration.held_eq_false {a : Arbitration} : a.held = false ↔ a = { active := none, waiting := [] } := by
  cases a
  simp [Arbitration.held]

theorem Arbitration.not_held (a : Arbitration) : (a.active.isNone && a.waiting.isEmpty) = !a.held := by
  cases a with | mk active waiting => cases active <;> simp [Arbitration.held]

/-- The returns of a list that `lost` picks with their requests removed: the talk-cause marks and LISTENER GONE (R73). -/
def State.goneOver (s : State) (lost : ReturnId → Bool) (l : List ReturnId) : State :=
  State.raiseEach { s with
      arbiter := Vector.ofFn fun r => if r ∈ l ∧ lost r then { active := none, waiting := [] } else s.arbiter[r]
      queue := joinRows s.queue ((l.filter fun r => lost r && s.arbiter[r].active.isSome).map .ret) true }
    .listenerGone ((l.filter fun r => lost r && s.arbiter[r].held).map fun r => r.val)

/-- One return's requests removed (R73). -/
theorem State.listenerGone_eq (s : State) (r : ReturnId) :
    s.listenerGone r = State.raiseEach { s with
        arbiter := s.arbiter.set r { active := none, waiting := [] }
        queue := if s.arbiter[r].active.isSome then markQueue s.queue (.ret r) true else s.queue }
      .listenerGone (if s.arbiter[r].held then [r.val] else []) := by
  cases h : s.arbiter[r].held
  · have ha := Arbitration.held_eq_false.mp h
    have hv : s.arbiter.set r { active := none, waiting := [] } = s.arbiter := by
      rw [← ha]; simp
    rw [hv, ha]
    simp [State.listenerGone, ha, State.raiseEach]
  · unfold State.listenerGone
    simp only [Arbitration.not_held, h]
    cases s.arbiter[r].active.isSome <;> rfl

theorem State.listenerGone_arbiter (s : State) (r : ReturnId) :
    (s.listenerGone r).arbiter = s.arbiter.set r { active := none, waiting := [] } := by
  rw [State.listenerGone_eq, State.raiseEach_arbiter]

theorem State.goneOver_cons (s : State) (lost : ReturnId → Bool) {r : ReturnId} {l : List ReturnId} (h : r ∉ l) :
    (if lost r then s.listenerGone r else s).goneOver lost l = s.goneOver lost (r :: l) := by
  cases hl : lost r
  · have hv : ∀ q : ReturnId, ((q = r ∨ q ∈ l) ∧ lost q = true) ↔ (q ∈ l ∧ lost q = true) := by
      intro q
      constructor
      · rintro ⟨rfl | hq, hlq⟩
        · simp [hl] at hlq
        · exact ⟨hq, hlq⟩
      · exact fun ⟨hq, hlq⟩ => ⟨.inr hq, hlq⟩
    simp [State.goneOver, hl, hv]
  · have hread : ∀ q ∈ l, (s.listenerGone r).arbiter[q] = s.arbiter[q] := by
      intro q hq
      have hne : r.val ≠ q.val := fun hv => h (Fin.ext hv ▸ hq)
      simp [State.listenerGone_arbiter, hne]
    have hactive : (l.filter fun q => lost q && (s.listenerGone r).arbiter[q].active.isSome) =
        l.filter fun q => lost q && s.arbiter[q].active.isSome :=
      List.filter_congr fun q hq => by rw [hread q hq]
    have hheld : (l.filter fun q => lost q && (s.listenerGone r).arbiter[q].held) = l.filter fun q => lost q && s.arbiter[q].held :=
      List.filter_congr fun q hq => by rw [hread q hq]
    have harb : (Vector.ofFn fun q : ReturnId => if q ∈ l ∧ lost q then ({ active := none, waiting := [] } : Arbitration)
          else (s.listenerGone r).arbiter[q]) =
        Vector.ofFn fun q : ReturnId => if q ∈ r :: l ∧ lost q then { active := none, waiting := [] } else s.arbiter[q] := by
      congr 1
      funext q
      by_cases hq : r = q
      · subst hq
        simp [hl, State.listenerGone_arbiter]
      · have hne : r.val ≠ q.val := fun hv => hq (Fin.ext hv)
        simp [State.listenerGone_arbiter, hne, Ne.symm hq]
    have hrow : Row.ret r ∉ (l.filter fun q => lost q && s.arbiter[q].active.isSome).map Row.ret := by
      simp [h]
    simp only [if_true, State.goneOver, hactive, hheld, harb]
    rw [State.listenerGone_eq, State.raiseEach_tables, State.raiseEach_queue, State.raiseEach_append]
    cases hs : s.arbiter[r].active.isSome <;> cases hd : s.arbiter[r].held <;>
      simp [-Fin.getElem_fin, hl, hs, hd, joinRows_cons _ _ hrow]

theorem State.foldl_listenerGone (s : State) (lost : ReturnId → Bool) {l : List ReturnId} (h : l.Nodup) :
    l.foldl (fun t r => if lost r then t.listenerGone r else t) s = s.goneOver lost l := by
  induction l generalizing s with
  | nil => simp [State.goneOver, State.raiseEach, joinRows_nil]
  | cons r l ih =>
    obtain ⟨hr, hl⟩ := List.nodup_cons.mp h
    rw [List.foldl_cons, ih _ hl, State.goneOver_cons s lost hr]

/-- The rows of a source's returns that lose an active request with it (R73, R74). -/
def State.bereftRow (s : State) (i : SourceId) : Row → Bool
  | .program => false
  | .ret r => decide (s.returns[r].attached = some i) && s.arbiter[r].active.isSome

/-- The removal of the requests of a source's listeners is the one the rules give (R15 step 5, R16 step 3, R73). -/
theorem State.listenersGone_eq (s : State) (i : SourceId) : s.listenersGone i = Claims.afterListenersGone s i s.queue := by
  have hq : joinRows s.queue (((List.finRange 24).filter fun r =>
        decide (s.returns[r].attached = some i) && s.arbiter[r].active.isSome).map .ret) true =
      joinQueue s.queue (s.bereftRow i) true := by
    rw [← joinRows_filter_rowOrder]
    simp [rowOrder, List.filter_map, Function.comp_def, State.bereftRow]
  have hf := State.foldl_listenerGone s (fun r => decide (s.returns[r].attached = some i)) (List.nodup_finRange 24)
  simp only [decide_eq_true_eq] at hf
  rw [State.listenersGone, hf, State.goneOver, hq]
  simp only [List.mem_finRange, true_and]
  rfl

/-- A notice raised before the removal of requests may be raised after it (R73, R174). -/
theorem State.listenerGone_raise (s : State) (r : ReturnId) (k : NoticeKind) (j : Nat) :
    (s.raise k j).listenerGone r = (s.listenerGone r).raise k j := by
  rw [State.listenerGone_eq s, ← State.raiseEach_raise]
  exact State.listenerGone_eq (s.raise k j) r

theorem State.listenersGone_raise (s : State) (i : SourceId) (k : NoticeKind) (j : Nat) :
    (s.raise k j).listenersGone i = (s.listenersGone i).raise k j := by
  have h : ∀ (l : List ReturnId) (t : State),
      l.foldl (fun t r => if s.returns[r].attached = some i then t.listenerGone r else t) (t.raise k j) =
        (l.foldl (fun t r => if s.returns[r].attached = some i then t.listenerGone r else t) t).raise k j := by
    intro l
    induction l with
    | nil => intro t; rfl
    | cons r l ih =>
      intro t
      rw [List.foldl_cons, List.foldl_cons, ← ih, State.listenerGone_raise]
      split <;> rfl
  exact h _ s

end Sys2Proof.Machine

namespace Sys2Proof.Machine

open Claims

/-! ## The contributor stage -/

@[simp] theorem Kind.hasStage_iff (k : Kind) : k.hasStage = true ↔ k = .caller ∨ k = .codec := by cases k <;> decide

@[simp] theorem Kind.hasOn_iff (k : Kind) : k.hasOn = true ↔ k = .studio ∨ k = .playout := by cases k <;> decide

@[simp] theorem Kind.hasFader_iff (k : Kind) :
    k.hasFader = true ↔ (k = .caller ∨ k = .codec) ∨ k = .studio ∨ k = .playout := by simp [Kind.hasFader]

@[simp] theorem Kind.mayJoin_iff (k : Kind) : k.mayJoin = true ↔ k = .caller ∨ k = .codec ∨ k = .studio := by
  cases k <;> decide

/-- A stage command acts on the caller or codec that its byte names (R9). -/
theorem State.withRemote_of {s : State} {b : Byte} {i : SourceId} (hb : Names b i) (hr : Remote s.sources[i])
    (act : SourceId → State × Answer) : s.withRemote b act = act i := by
  simp only [State.withRemote, indexArg_eq_some.mpr hb, Kind.hasStage_iff]
  exact if_pos hr

/-- A stage command for anything else is refused INVALID (R9). -/
theorem State.withRemote_none {s : State} {b : Byte} (h : NoRemote s b) (act : SourceId → State × Answer) :
    s.withRemote b act = (s, refuse .invalid) := by
  unfold State.withRemote
  split
  · rfl
  · next i hi =>
    simp only [Kind.hasStage_iff]
    exact if_neg (h i (indexArg_eq_some.mp hi))

theorem State.attachedRow_eq (s : State) (i : SourceId) : s.attachedRow i = attachedTo s i := by
  funext ρ
  cases ρ <;> rfl

theorem State.moveStage_eq (s : State) (i : SourceId) (g : Stage) : s.moveStage i g = afterMove s i g := by
  rw [State.moveStage, State.markRows_eq, State.attachedRow_eq]
  rfl

theorem Source.leave_none {x : Source} (h : x.conference = none) : { x with conference := none } = x := by
  cases x
  simp_all

/-- A source whose record has just been written taken out of the conference it was in (R13 step 3, R15 step 3, R51, R52). -/
theorem State.setSource_exitConference (s : State) (i : SourceId) (x : Source) (h : x.conference = s.sources[i].conference) :
    (s.setSource i x).exitConference i = exitNotice s { s with
      sources := s.sources.set i { x with conference := none }, conferences := without s i } i := by
  have hx : (s.setSource i x).sources[i] = x := State.setSource_same s i x
  unfold State.exitConference exitNotice without
  rw [hx, h]
  cases hc : s.sources[i].conference with
  | none =>
    rw [Source.leave_none (h.trans hc)]
    rfl
  | some k =>
    have hu : ((s.setSource i x).unlist k i).sources[i] = x := hx
    show (((s.setSource i x).unlist k i).setMembership i none).raise .conferenceExit i.val = State.raise _ .conferenceExit i.val
    rw [State.setMembership, hu]
    congr 1
    simp [State.setSource, State.unlist, State.setConference]

/-! ### Writing sources and marking rows does not meet the notices -/

/-- TAKE of a READY source (R13). -/
theorem State.putOnAir_eq (s : State) (i : SourceId) : s.putOnAir i = afterTake s i := by
  rw [State.putOnAir, State.setSource_exitConference s i { s.sources[i] with stage := .air, guard := none } rfl, State.markRows_eq]
  unfold afterTake exitNotice
  cases s.sources[i].conference <;> rfl

/-- DROP of an AIR source (R14). -/
theorem State.dropToHold_eq (s : State) (i : SourceId) : s.dropToHold i = afterDrop s i := by
  rw [State.dropToHold, State.markRows_eq]
  unfold afterDrop
  by_cases h : s.airDelay = 0 <;> simp [h, Nat.pos_iff_ne_zero] <;> rfl

theorem State.memberRow_eq (s : State) (k : ConferenceId) : s.memberRow k = attachedIn s s.conferences[k].members := by
  funext ρ
  cases ρ with
  | program => rfl
  | ret r =>
    show (match s.returns[r].attached with
      | none => false
      | some a => s.conferences[k].members.contains a) = s.conferences[k].members.any fun m => decide (s.returns[r].attached = some m)
    cases s.returns[r].attached with
    | none => simp
    | some a => simp [List.contains_eq_any_beq, -List.contains_eq_mem, beq_eq_decide]

theorem State.ownConferenceRow_eq (s : State) (i : SourceId) : s.ownConferenceRow i = attachedIn s (fellows s i) := by
  funext ρ
  unfold State.ownConferenceRow fellows
  cases s.sources[i].conference with
  | none => cases ρ <;> rfl
  | some k => exact congrFun (s.memberRow_eq k) ρ

theorem State.dependentRow_eq (s : State) (i : SourceId) : s.dependentRow i = dependent s i := by
  funext ρ
  rw [State.dependentRow, State.ownConferenceRow_eq]
  cases ρ with
  | program => rfl
  | ret r => simp [State.attachedRow, State.minusRow, State.inMinusSet, attachedIn, dependent, Bool.or_comm]

theorem exitNotice_markRows (s t : State) (i : SourceId) (p : Row → Bool) :
    (exitNotice s t i).markRows p = exitNotice s (t.markRows p) i := by
  simp only [State.markRows_eq]
  unfold exitNotice
  split <;> rfl

theorem exitNotice_listenersGone (s t : State) (i j : SourceId) :
    (exitNotice s t i).listenersGone j = exitNotice s (t.listenersGone j) i := by
  unfold exitNotice
  split
  · exact State.listenersGone_raise t j .conferenceExit i.val
  · rfl

/-- DETACH of a source in SCREEN, HOLD or READY (R15). -/
theorem State.endCall_eq (s : State) (i : SourceId) : s.endCall i = afterCallEnd s i := by
  rw [State.endCall, State.setSource_exitConference s i
    { s.sources[i] with stage := .vacant, guard := none, silent := false, silenceCount := 0 } rfl]
  dsimp only
  rw [exitNotice_markRows, exitNotice_listenersGone, State.listenersGone_eq, State.markRows_eq, State.dependentRow_eq]
  rfl

/-- DETACH of a source in AIR (R16). -/
theorem State.forceDrop_eq (s : State) (i : SourceId) : s.forceDrop i = afterForcedDrop s i := by
  rw [State.forceDrop, State.markRows_eq, State.listenersGone_eq]
  rfl

end Sys2Proof.Machine

namespace Sys2Proof.Machine

open Claims

/-- The program contribution of a caller or codec (R6). -/
theorem Source.contribution_remote {x : Source} (h : Remote x) : x.contribution = if x.stage = .air then x.fader else 0 := by
  rcases h with h | h <;> simp [Source.contribution, h, Kind.hasOn]

/-- A stage command completes with what its row of the stage table says of the caller or codec it names (R9). -/
theorem completes_of_remote {c : Instr} {p : Port} {code b : Byte} {s t : State} {a : Answer} {i : SourceId}
    {act : State → SourceId → State × Answer} (he : exec c s = s.perform c fun t => t.withRemote b (act t))
    (hf : commandFrame c = some { port := p, code := code, params := [b] }) (hb : Names b i) (hr : Remote s.sources[i])
    (ha : act s i = (t, a)) : Completes c p code [b] s t a :=
  completes_of_owner he hf ((State.withRemote_of hb hr (act s)).trans ha)

/-- A stage command for anything else completes with INVALID (R9). -/
theorem completes_of_noRemote {c : Instr} {p : Port} {code b : Byte} {s : State} {act : State → SourceId → State × Answer}
    (h : NoRemote s b) (he : exec c s = s.perform c fun t => t.withRemote b (act t))
    (hf : commandFrame c = some { port := p, code := code, params := [b] }) : Completes c p code [b] s s (refuse .invalid) :=
  completes_of_owner he hf (State.withRemote_none h (act s))

/-! ## Expiries and settings -/

theorem State.whenever_false (s event : State) : s.whenever false event = .next s := by simp [State.whenever]

theorem optionArg_noneByte (n : Nat) : optionArg n 0xFF = some none := rfl

theorem optionArg_of_names {n : Nat} {b : Byte} {i : Fin n} (hn : n ≤ 255) (hb : Names b i) : optionArg n b = some (some i) := by
  have h : b ≠ noneByte := by
    rintro rfl
    have : (255 : Nat) = i.val := hb
    omega
  rw [optionArg, if_neg h, indexArg_eq_some.mpr hb, Option.map_some]

theorem optionArg_eq_some_some {n : Nat} {b : Byte} {i : Fin n} (h : optionArg n b = some (some i)) : Names b i := by
  unfold optionArg at h
  split at h
  · simp at h
  · simpa [indexArg_eq_some] using h

theorem optionArg_eq_some_none {n : Nat} {b : Byte} (h : optionArg n b = some none) : b = 0xFF := by
  unfold optionArg at h
  split at h
  · assumption
  · simp at h

theorem State.minusRow_eq (s : State) (i : SourceId) : s.minusRow i = fun ρ => match ρ with
    | .program => false
    | .ret r => s.returns[r].minusList.contains i || decide (s.returns[r].attached = some i) := by
  funext ρ
  cases ρ <;> rfl

/-- A request is promoted exactly where one waits (R69). -/
theorem promoted_isSome (l : List Request) : (promoted l).active.isSome = !l.isEmpty := by
  unfold promoted
  cases h : pickNext l with
  | none => simp [pick_eq_none.mp h]
  | some x =>
    have : l ≠ [] := fun hl => by simp [pickNext, pick_eq_none.mpr hl] at h
    simp [this]

/-- A hold expiry (R71). -/
theorem State.expireHold_eq (s : State) (r : ReturnId) : s.expireHold r = afterHoldExpiry s r := by
  unfold State.expireHold afterHoldExpiry
  simp only [promoted_isSome, State.mark_ret]
  by_cases h : s.arbiter[r].waiting = []
  · simp only [h]
    rfl
  · have hb : (!s.arbiter[r].waiting.isEmpty) = true := by simpa using h
    rw [if_neg h, if_pos hb, State.raise_comm _ .interruptStarted]
    rfl

theorem afterListenersGone_sources (s : State) (i : SourceId) (q : List QueueEntry) : (afterListenersGone s i q).sources = s.sources := by
  unfold afterListenersGone
  rw [State.raiseEach_frame]

end Sys2Proof.Machine

namespace Sys2Proof.Proofs

open Machine Claims

theorem take_notReady {s : State} {b : Byte} {i : SourceId} (hb : Names b i) (hr : Remote s.sources[i])
    (h : s.sources[i].stage = .screen ∨ s.sources[i].stage = .hold) :
    Completes (.take b) .console 0x23 [b] s s (refuse .notReady) :=
  completes_of_remote rfl rfl hb hr (by obtain h | h := h <;> rw [h])

theorem take_vacant {s : State} {b : Byte} {i : SourceId} (hb : Names b i) (hr : Remote s.sources[i])
    (h : s.sources[i].stage = .vacant) : Completes (.take b) .console 0x23 [b] s s (refuse .state) :=
  completes_of_remote rfl rfl hb hr (by rw [h])

theorem drop_offAir {s : State} {b : Byte} {i : SourceId} (hb : Names b i) (hr : Remote s.sources[i])
    (h : s.sources[i].stage ≠ .air) : Completes (.drop b) .console 0x24 [b] s s (refuse .state) :=
  completes_of_remote rfl rfl hb hr (by split <;> simp_all)

/-- Settles O23: the refusals of the stage table, and the moves to the stage already held (R9). -/
theorem stageTableRefusals : Obligations.StageTableRefusals := by
  intro s b
  refine ⟨fun h p code c hc => ?_, fun i hb hr => ?_⟩
  · simp only [List.mem_cons, Prod.mk.injEq, List.not_mem_nil, or_false] at hc
    obtain ⟨rfl, rfl, rfl⟩ | ⟨rfl, rfl, rfl⟩ | ⟨rfl, rfl, rfl⟩ | ⟨rfl, rfl, rfl⟩ | ⟨rfl, rfl, rfl⟩ | ⟨rfl, rfl, rfl⟩ |
      ⟨rfl, rfl, rfl⟩ := hc <;> exact completes_of_noRemote h rfl rfl
  · exact
      ⟨fun h => completes_of_remote rfl rfl hb hr (by split <;> simp_all),
        fun h => completes_of_remote rfl rfl hb hr (by rw [h]),
        fun h => completes_of_remote rfl rfl hb hr (by obtain h | h := h <;> rw [h]),
        fun h => completes_of_remote rfl rfl hb hr (by rw [h]),
        fun h => completes_of_remote rfl rfl hb hr (by obtain h | h := h <;> rw [h]),
        fun h => completes_of_remote rfl rfl hb hr (by rw [h]),
        fun h => completes_of_remote rfl rfl hb hr (by obtain h | h := h <;> rw [h]),
        fun h => completes_of_remote rfl rfl hb hr (by rw [h]),
        take_vacant hb hr, take_notReady hb hr,
        fun h => completes_of_remote rfl rfl hb hr (by rw [h]),
        drop_offAir hb hr⟩

/-- Settles O24: each move is `moveStage`, at the stages that the table of R9 allows it from. -/
theorem stageMovesMarkTheAttachedRow : Obligations.StageMovesMarkTheAttachedRow := by
  intro s b i hb hr
  refine ⟨fun h => ?_, fun h => ?_, fun h => ?_, fun h => ?_⟩
  · exact completes_of_remote rfl rfl hb hr (by rw [h, State.moveStage_eq])
  · exact completes_of_remote rfl rfl hb hr (by obtain h | h := h <;> rw [h, State.moveStage_eq])
  · exact completes_of_remote rfl rfl hb hr (by obtain h | h := h <;> rw [h, State.moveStage_eq])
  · exact completes_of_remote rfl rfl hb hr (by obtain h | h := h <;> rw [h, State.moveStage_eq])

/-- Settles O25: TAKE is `putOnAir` and DROP is `dropToHold`, whose whole next states are `afterTake` and `afterDrop`. -/
theorem takeAndDropMoveSourcesOnAndOffAir : Obligations.TakeAndDropMoveSourcesOnAndOffAir := by
  refine ⟨fun s b i hb hr h => ⟨?_, ?_⟩, fun s b i hb hr => ⟨take_notReady hb hr, take_vacant hb hr⟩,
    fun s b i hb hr => ⟨fun h => ⟨?_, ?_⟩, drop_offAir hb hr⟩⟩
  · exact completes_of_remote rfl rfl hb hr (by rw [h, State.putOnAir_eq])
  · have hx : (afterTake s i).sources[i] = { s.sources[i] with stage := .air, guard := none, conference := none } := by
      unfold afterTake exitNotice
      split <;> simp
    rw [hx]
    exact Source.contribution_remote (x := { s.sources[i] with stage := .air, guard := none, conference := none }) hr
  · exact completes_of_remote rfl rfl hb hr (by rw [h, State.dropToHold_eq])
  · have hk : Remote (afterDrop s i).sources[i] := by simpa [afterDrop] using hr
    have hg : (afterDrop s i).sources[i].stage = .hold := by simp [afterDrop]
    rw [Source.contribution_remote hk, hg, if_neg (by decide)]

/-- Settles O26: DETACH is `endCall` or `forceDrop`, whose whole next states are `afterCallEnd` and `afterForcedDrop`. -/
theorem detachEndsACallOrForcesADrop : Obligations.DetachEndsACallOrForcesADrop := by
  refine ⟨fun s b i hb hr h => ?_, fun s b i hb hr h => ⟨?_, ?_⟩⟩
  · exact completes_of_remote rfl rfl hb hr (by obtain h | h | h := h <;> rw [h, State.endCall_eq])
  · exact completes_of_remote rfl rfl hb hr (by rw [h, State.forceDrop_eq])
  · have hx : (afterForcedDrop s i).sources[i] = { s.sources[i] with stage := .vacant, silent := false, silenceCount := 0 } := by
      simp [afterForcedDrop, afterListenersGone_sources]
    rw [hx]
    exact Source.contribution_remote (x := { s.sources[i] with stage := .vacant, silent := false, silenceCount := 0 }) hr

/-- Settles O27: each expiry is its event where the count stands at 0, and nothing elsewhere (R22, R71). -/
theorem guardAndHoldExpiriesAct : Obligations.GuardAndHoldExpiriesAct := by
  refine ⟨fun s i hr => ⟨fun h => ?_, fun h => ?_⟩, fun s r hr => ⟨fun x hx h => ?_, fun h => ?_⟩⟩
  · show s.whenever (decide (s.sources[i].guard = some 0)) (s.expireGuard i) = _
    rw [decide_eq_true h, State.whenever_of _ hr, State.expireGuard, State.markRows_eq, State.minusRow_eq]
    rfl
  · show s.whenever (decide (s.sources[i].guard = some 0)) (s.expireGuard i) = _
    rw [decide_eq_false h, State.whenever_false]
  · have hd : s.holdDue r = true := by rw [State.holdDue, hx]; simp [h]
    show s.whenever (s.holdDue r) (s.expireHold r) = _
    rw [hd, State.whenever_of _ hr, State.expireHold_eq]
  · have hd : s.holdDue r = false := by
      rw [State.holdDue]
      cases hx : s.arbiter[r].active with
      | none => rfl
      | some x => simp [h x hx]
    show s.whenever (s.holdDue r) (s.expireHold r) = _
    rw [hd, State.whenever_false]

/-- Settles O21, by what the argument byte reads as: none, a source of kind AIR, or anything else (R18). -/
theorem setAirFeedMarksEveryReturnRow : Obligations.SetAirFeedMarksEveryReturnRow := by
  intro s b
  refine ⟨fun h => completes_of_owner rfl rfl ?_, fun i hb hk => completes_of_owner rfl rfl ?_,
    fun ⟨hn, hk⟩ => completes_of_owner rfl rfl ?_⟩
  · rw [ownerSetAirFeed, h, optionArg_noneByte]
    simp only [State.markRows_eq]
  · rw [ownerSetAirFeed, optionArg_of_names (by decide) hb]
    simp only [if_pos hk, State.markRows_eq]
  · unfold ownerSetAirFeed
    split
    · rfl
    · next ha => exact absurd (optionArg_eq_some_none ha) hn
    · next i ha => rw [if_neg (hk i (optionArg_eq_some_some ha))]

theorem clamp_zero (hi n : Nat) : clamp 0 hi n = min n hi := by simp [clamp, Nat.min_comm]

theorem clamp_one {hi : Nat} (h : 1 ≤ hi) (n : Nat) : clamp 1 hi n = if n = 0 then 1 else min n hi := by
  unfold clamp
  split <;> omega

/-- Settles O22. -/
theorem settingsAreClamped : Obligations.SettingsAreClamped := by
  intro s d p t c w st db th
  have hc : min c.toNat 65535 = c.toNat := by omega
  refine ⟨completes_of_owner rfl rfl ?_, completes_of_owner rfl rfl ?_, completes_of_owner rfl rfl ?_,
    completes_of_owner rfl rfl ?_⟩
  · simp only [ownerSetAirDelay, clamp_zero]
  · simp only [ownerSetRampSteps, clamp_one (hi := Config.maxStep) (by decide)]
  · simp only [ownerSetWatch, clamp_zero, clamp_one (hi := 65535) (by decide), clamp_one (hi := 60) (by decide), hc]
  · simp only [ownerSetDebounce, clamp_one (hi := 32) (by decide)]

end Sys2Proof.Proofs

namespace Sys2Proof.Machine

open Claims

/-! ## The reset state -/

theorem State.reset_sources (i : SourceId) : State.reset.sources[i] = Source.reset := by simp [State.reset]

theorem State.reset_returns (r : ReturnId) : State.reset.returns[r] = Return.reset := by simp [State.reset]

theorem State.reset_arbiter (r : ReturnId) : State.reset.arbiter[r] = Arbitration.reset := by simp [State.reset]

theorem State.reset_row (ρ : Row) (i : SourceId) : (State.reset.row ρ)[i] = Cell.reset := by
  simp [State.reset, State.row]

theorem State.reset_port (p : Port) : State.reset.port p = PortState.reset := by simp [State.reset, State.port]

theorem compose_zero (y : Coeff) : compose 0 y = 0 := by simp [compose, capCoeff]

/-- A return with no source, the default feed SILENT and no active request carries nothing (R37, R104, R106). -/
theorem State.returnTarget_of_silent {s : State} {r : ReturnId} (ha : s.returns[r].attached = none)
    (hf : s.returns[r].defaultFeed = .silent) (hn : s.arbiter[r].active = none) (i : SourceId) : s.returnTarget r i = 0 := by
  have hb : s.baseCoeff r i = 0 := by simp only [State.baseCoeff, State.baseFeed, State.baseBeforeDemotion, ha, hf]
  have hc : s.conferenceCoeff r i = 0 := by simp only [State.conferenceCoeff, ha, hb]
  have hl : s.silentListener r = false := by simp only [State.silentListener, ha]
  simp only [State.returnTarget, hl, hn, State.levelCoeff, hc, compose_zero, Bool.false_eq_true, if_false]

/-- The composition gives 0 for every cell over the source, return and arbitration records of the reset (R2, R100). -/
theorem State.targetOf_of_reset {s : State} (hs : s.sources = State.reset.sources) (hr : s.returns = State.reset.returns)
    (ha : s.arbiter = State.reset.arbiter) (ρ : Row) (i : SourceId) : s.targetOf ρ i = 0 := by
  cases ρ with
  | program =>
    show s.sources[i].contribution = 0
    rw [hs, State.reset_sources]
    rfl
  | ret r =>
    have hret : s.returns[r] = Return.reset := by rw [hr, State.reset_returns]
    have harb : s.arbiter[r] = Arbitration.reset := by rw [ha, State.reset_arbiter]
    exact State.returnTarget_of_silent (by rw [hret]; rfl) (by rw [hret]; rfl) (by rw [harb]; rfl) i

theorem State.reset_tablesLawful : State.reset.TablesLawful where
  staged := by simp [State.reset, Source.reset]
  guarded := by simp [State.reset, Source.reset]
  attachedKind := by simp [State.reset, Return.reset]
  attachedOnce := by simp [State.reset, Return.reset]
  minusShort := by simp [State.reset, Return.reset]
  minusDistinct := by simp [State.reset, Return.reset]
  minusKind := by simp [State.reset, Return.reset]
  activeKind := by simp [State.reset, Arbitration.reset]
  waitingKind := by simp [State.reset, Arbitration.reset]
  bindingKind := by simp [State.reset, Key.reset]
  listening := by simp [State.reset, Return.reset]
  airFeedKind := by simp [State.reset]
  activeOwned := by simp [State.reset, Arbitration.reset]
  waitingOwned := by simp [State.reset, Arbitration.reset]

theorem State.reset_conferencesLawful : State.reset.ConferencesLawful where
  short := by simp [State.reset, Conference.reset]
  distinct := by simp [State.reset, Conference.reset]
  agree := by simp [State.reset, Conference.reset, Source.reset]
  admitted := by simp [State.reset, Conference.reset]

theorem State.reset_arbiterLawful : State.reset.ArbiterLawful := by
  intro r
  rw [State.reset_arbiter]
  constructor <;> simp [Arbitration.reset]

theorem State.reset_rangesLawful : State.reset.RangesLawful where
  guards := by simp [State.reset, Source.reset]
  silence := by simp [State.reset, Source.reset]
  airDelay := by decide
  ceilings := by simp [State.reset, Return.reset]
  refusals := by simp [State.reset, Return.reset]
  holds := by simp [State.reset, Arbitration.reset]
  debounce := by decide
  steps := fun ρ i => by rw [State.reset_row]; decide
  programStep := by decide
  talkStep := by decide
  clips := by simp [State.reset, Clip.reset]
  watchCode := by decide
  clipThreshold := by decide
  silenceThreshold := by decide
  silenceTime := by decide
  watchRemaining := by decide

theorem State.reset_settledLawful : State.reset.SettledLawful where
  settled := fun ρ _ _ i => by
    rw [State.reset_row, State.targetOf_of_reset rfl rfl rfl]
    rfl
  landing := fun _ h => by simp [State.reset] at h

theorem State.reset_slotsLawful : State.reset.SlotsLawful := by
  intro p
  rw [State.reset_port]
  simp [PortState.reset]

theorem State.reset_syncLawful : State.reset.SyncLawful where
  gap := by decide
  quiet := fun h => by simp [State.reset] at h

theorem State.reset_lanesLawful : State.reset.LanesLawful where
  count := fun n h => by simp [State.reset] at h
  output := by decide

theorem State.reset_keysLawful : State.reset.KeysLawful where
  idle := fun _ => by simp [State.reset, Key.reset]
  waits := by simp [State.reset, Key.reset]
  counted := by simp [State.reset, Key.reset]

end Sys2Proof.Machine

namespace Sys2Proof.Proofs

open Machine Claims

/-- Settles O60. -/
theorem theResetStateIsLawful : Obligations.TheResetStateIsLawful :=
  ⟨⟨State.reset_tablesLawful, State.reset_conferencesLawful, State.reset_arbiterLawful⟩, State.reset_settledLawful,
    State.reset_rangesLawful, List.nodup_nil, State.reset_slotsLawful, State.reset_syncLawful, State.reset_lanesLawful,
    State.reset_keysLawful⟩

/-- Settles O3: what the composition and the rows read of the state in device reset is what they read of the reset state. -/
theorem deviceResetRestoresTheContributorTable : Obligations.DeviceResetRestoresTheContributorTable := by
  intro s
  have hs : ∀ i : SourceId, s.enterReset.sources[i] = Source.reset := State.reset_sources
  have hc : ∀ (ρ : Row) (i : SourceId), (s.enterReset.row ρ)[i] = Cell.reset := State.reset_row
  refine ⟨s.enterReset, rfl, hs, rfl, rfl, fun i => ?_, fun ρ i => ⟨?_, State.targetOf_of_reset rfl rfl rfl ρ i⟩⟩
  · rw [hs]
    rfl
  · rw [hc]
    rfl

end Sys2Proof.Proofs

namespace Sys2Proof.Machine

open Claims

/-! ## SET SOURCE KIND, SET FADERS and SET SOURCE ON -/

/-- The free source of R4 is the one that SET SOURCE KIND tests for. -/
theorem State.free_iff (s : State) (i : SourceId) : s.free i = true ↔ Free s i := by
  simp only [State.free, State.attachedAnywhere, State.listedAnywhere, State.talksAnywhere, State.boundAnywhere, Bool.and_eq_true,
    Bool.not_eq_true', decide_eq_true_eq, Bool.or_eq_false_iff, List.any_eq_false, List.mem_finRange, forall_const,
    List.contains_eq_mem, Bool.or_eq_true, not_or, Option.any_eq_true, List.any_eq_true, beq_iff_eq, not_exists, not_and]
  constructor
  · rintro ⟨⟨⟨⟨⟨⟨hv, ho⟩, ha⟩, hm, hc⟩, ht⟩, hb⟩, hf⟩
    exact ⟨hv, ho, ha, hm, hc, fun r => (ht r).1, fun r => (ht r).2, hb, hf⟩
  · rintro ⟨hv, ho, ha, hm, hc, hx, hw, hb, hf⟩
    exact ⟨⟨⟨⟨⟨⟨hv, ho⟩, ha⟩, hm, hc⟩, fun r => ⟨hx r, hw r⟩⟩, hb⟩, hf⟩

theorem kindArg_byte (k : Kind) : kindArg k.byte = some k := by cases k <;> rfl

theorem kindArg_eq_none {b : Byte} (h : 7 ≤ b.toNat) : kindArg b = none := by
  unfold kindArg
  split <;> first | omega | rfl

/-! ### Lists of entries -/

/-- A list's entries fail their checks at the positions where the rule says so, all with one code (R7, R8). -/
def ChecksDecide {α : Type} (check : Nat → List α → α → Option ResultCode) (r : ResultCode) (es : List α) (fails : Nat → Prop) : Prop :=
  (∀ n, fails n → ∃ e, es[n]? = some e) ∧
    ∀ n e, es[n]? = some e → (fails n ∧ check n (es.take n) e = some r) ∨ (¬ fails n ∧ check n (es.take n) e = none)

theorem ChecksDecide.passes {α : Type} {check : Nat → List α → α → Option ResultCode} {r : ResultCode} {es : List α}
    {fails : Nat → Prop} (hc : ChecksDecide check r es fails) {n : Nat} {e : α} (he : es[n]? = some e) (h : ¬ fails n) :
    check n (es.take n) e = none :=
  (hc.2 n e he).elim (fun hf => absurd hf.1 h) And.right

/-- The list is refused at its first failing position. -/
theorem ChecksDecide.first {α : Type} {check : Nat → List α → α → Option ResultCode} {r : ResultCode} {es : List α}
    {fails : Nat → Prop} (hc : ChecksDecide check r es fails) {n : Nat} (h : FirstFailure fails n) :
    checkEntries check 0 [] es = some (n, r) := by
  obtain ⟨hn, hbefore⟩ := h
  obtain ⟨e, he⟩ := hc.1 n hn
  have hr : check n (es.take n) e = some r := (hc.2 n e he).elim And.right fun hp => absurd hn hp.1
  rw [checkEntries_eq_some]
  exact ⟨n, e, by simp, he, by simpa using hr, fun k d hk hd => by simpa using hc.passes hd (hbefore k hk)⟩

/-- A list without a failing position passes. -/
theorem ChecksDecide.pass {α : Type} {check : Nat → List α → α → Option ResultCode} {r : ResultCode} {es : List α}
    {fails : Nat → Prop} (hc : ChecksDecide check r es fails) (h : ∀ n, ¬ fails n) : checkEntries check 0 [] es = none := by
  rw [checkEntries_eq_none]
  exact fun n e he => by simpa using hc.passes he (h n)

theorem any_take_iff {α : Type} (es : List α) (n : Nat) (p : α → Bool) :
    (es.take n).any p = true ↔ ∃ m d, m < n ∧ es[m]? = some d ∧ p d = true := by
  simp only [List.any_eq_true, List.mem_iff_getElem?, List.getElem?_take]
  constructor
  · rintro ⟨d, ⟨m, hm⟩, hd⟩
    split at hm
    · exact ⟨m, d, by assumption, hm, hd⟩
    · cases hm
  · rintro ⟨m, d, hmn, hm, hd⟩
    exact ⟨d, ⟨m, by rw [if_pos hmn, hm]⟩, hd⟩

/-- Entries none of which repeats an earlier one's source name each source once. -/
theorem nodup_of_no_repeat {α : Type} {key : α → Byte} {es : List α}
    (h : ∀ (n : Nat) e, es[n]? = some e → ¬ ∃ m d, m < n ∧ es[m]? = some d ∧ key d = key e) : (es.map key).Nodup := by
  rw [List.nodup_iff_getElem?_ne_getElem?]
  intro m n hmn hn heq
  rw [List.length_map] at hn
  have he : es[n]? = some es[n] := List.getElem?_eq_getElem hn
  have hd : es[m]? = some es[m] := List.getElem?_eq_getElem (hmn.trans hn)
  simp only [List.getElem?_map, he, hd, Option.map_some, Option.some.injEq] at heq
  exact h n _ he ⟨m, _, hmn, hd, heq⟩

/-- The sources after the entries of a list have been written, each to the source it names (R7, R8). -/
def writtenSources {α : Type} (s : State) (key : α → Byte) (upd : α → Source → Source) (es : List α) : Vector Source 32 :=
  Vector.ofFn fun i => match es.find? fun e => (key e).toNat == i.val with
    | none => s.sources[i]
    | some e => upd e s.sources[i]

theorem foldl_writes {α : Type} {key : α → Byte} {upd : α → Source → Source} {write : State → α → State} {es : List α}
    (hw : ∀ t, ∀ e ∈ es, ∃ i : SourceId, Names (key e) i ∧ write t e = t.setSource i (upd e t.sources[i]))
    (hd : (es.map key).Nodup) (s : State) : es.foldl write s = { s with sources := writtenSources s key upd es } := by
  induction es generalizing s with
  | nil =>
    have : writtenSources s key upd [] = s.sources := by
      ext1 i hi
      simp [writtenSources]
    rw [this]
    rfl
  | cons e es ih =>
    obtain ⟨i, hi, he⟩ := hw s e (by simp)
    obtain ⟨hne, hd⟩ := List.nodup_cons.mp hd
    rw [List.foldl_cons, he, ih (fun t d hd => hw t d (by simp [hd])) hd]
    have hs : writtenSources (s.setSource i (upd e s.sources[i])) key upd es = writtenSources s key upd (e :: es) := by
      unfold writtenSources
      congr 1
      funext j
      by_cases hj : i = j
      · subst hj
        have hrest : (es.find? fun d => (key d).toNat == i.val) = none := by
          simp only [List.find?_eq_none, beq_iff_eq]
          intro d hd hk
          exact hne (List.mem_map.mpr ⟨d, hd, BitVec.eq_of_toNat_eq (hk.trans hi.symm)⟩)
        have hhead : ((key e).toNat == i.val) = true := beq_iff_eq.mpr hi
        simp only [hrest, List.find?_cons, hhead, State.setSource_same]
      · have hhead : ((key e).toNat == j.val) = false := beq_eq_false_iff_ne.mpr fun h => hj (Fin.ext (hi.symm.trans h))
        simp only [List.find?_cons, hhead, State.setSource_read, if_neg hj]
    rw [hs]
    rfl

end Sys2Proof.Machine

namespace Sys2Proof.Machine

open Claims

/-- A claim about every source a byte names is one about the source it names (R169). -/
theorem exists_names_iff {n : Nat} {b : Byte} {i : Fin n} (hb : Names b i) (P : Fin n → Prop) : (∃ j, Names b j ∧ P j) ↔ P i := by
  constructor
  · rintro ⟨j, hj, h⟩
    rwa [Fin.ext (hj.symm.trans hb)] at h
  · exact fun h => ⟨i, hb, h⟩

theorem onArg_isNone (b : Byte) : (onArg b).isNone = true ↔ 2 ≤ b.toNat := by
  unfold onArg
  split
  · next h => simp [h]
  · next h => simp [h]
  · next h0 h1 => exact iff_of_true rfl ((Nat.two_le_iff _).mpr ⟨h0, h1⟩)

/-- SET FADERS checks its entries as the rule says (R7). -/
theorem checkFader_decides (s : State) (es : List (Byte × Coeff)) : ChecksDecide (checkFader s) .invalid es (FaderFails s es) := by
  refine ⟨fun n ⟨e, he, _⟩ => ⟨e, he⟩, fun n e he => ?_⟩
  have hentry : ∀ P : Byte × Coeff → Prop, (∃ d, es[n]? = some d ∧ P d) ↔ P e := by simp [he]
  unfold FaderFails checkFader
  rw [hentry]
  cases hi : indexArg 32 e.1 with
  | none => exact .inl ⟨.inr (.inl (indexArg_eq_none.mp hi)), rfl⟩
  | some i =>
    have hlow : ¬ 32 ≤ e.1.toNat := fun h => by simp [indexArg_eq_none.mpr h] at hi
    simp only [exists_names_iff (indexArg_eq_some.mp hi), hlow, false_or, ← Kind.hasFader_iff, ← beq_iff_eq (α := Byte), ← any_take_iff]
    split
    · next h => exact .inl ⟨h, rfl⟩
    · next h => exact .inr ⟨h, rfl⟩

/-- SET SOURCE ON checks its entries as the rule says (R8). -/
theorem checkOn_decides (s : State) (es : List (Byte × Byte)) : ChecksDecide (checkOn s) .invalid es (OnFails s es) := by
  refine ⟨fun n ⟨e, he, _⟩ => ⟨e, he⟩, fun n e he => ?_⟩
  have hentry : ∀ P : Byte × Byte → Prop, (∃ d, es[n]? = some d ∧ P d) ↔ P e := by simp [he]
  unfold OnFails checkOn
  rw [hentry]
  cases hi : indexArg 32 e.1 with
  | none => exact .inl ⟨.inr (.inl (indexArg_eq_none.mp hi)), rfl⟩
  | some i =>
    have hlow : ¬ 32 ≤ e.1.toNat := fun h => by simp [indexArg_eq_none.mpr h] at hi
    simp only [exists_names_iff (indexArg_eq_some.mp hi), hlow, false_or, ← Kind.hasOn_iff, ← onArg_isNone,
      ← beq_iff_eq (α := Byte), ← any_take_iff, or_comm (a := (onArg e.2).isNone = true)]
    split
    · next h => exact .inl ⟨h, rfl⟩
    · next h => exact .inr ⟨h, rfl⟩

/-- The marks of a list command over every row (R7, R8). -/
theorem State.markUnlessEmpty_eq {α : Type} (s : State) (es : List α) :
    s.markUnlessEmpty es everyRow = { s with queue := afterList s es } := by
  cases es with
  | nil => simp [State.markUnlessEmpty, afterList]
  | cons e es => simp [State.markUnlessEmpty, afterList, State.markRows_eq]

/-- What an entry of SET FADERS writes to its source (R7). -/
def faderWrite (e : Byte × Coeff) (x : Source) : Source := { x with fader := e.2 }

/-- What an entry of SET SOURCE ON writes to its source (R8). -/
def onWrite (e : Byte × Byte) (x : Source) : Source := { x with on := decide (e.2 = 1) }

theorem afterFaders_eq (s : State) (es : List (Byte × Coeff)) :
    afterFaders s es = writtenSources s Prod.fst faderWrite es := by
  unfold afterFaders writtenSources
  congr 1
  funext i
  cases es.find? fun e => e.1.toNat == i.val <;> rfl

theorem afterOn_eq (s : State) (es : List (Byte × Byte)) :
    afterOn s es = writtenSources s Prod.fst onWrite es := by
  unfold afterOn writtenSources
  congr 1
  funext i
  cases es.find? fun e => e.1.toNat == i.val <;> rfl

theorem foldl_writeFader {s : State} {es : List (Byte × Coeff)} (h : ∀ n, ¬ FaderFails s es n) :
    es.foldl State.writeFader s = { s with sources := afterFaders s es } := by
  rw [afterFaders_eq]
  refine foldl_writes (fun t e he => ?_)
    (nodup_of_no_repeat fun n e he hr => h n ⟨e, he, .inr (.inr (.inl hr))⟩) s
  obtain ⟨n, he⟩ := List.mem_iff_getElem?.mp he
  have hlow : e.1.toNat < 32 := Nat.lt_of_not_le fun hl => h n ⟨e, he, .inr (.inl hl)⟩
  refine ⟨⟨e.1.toNat, hlow⟩, rfl, ?_⟩
  simp only [State.writeFader, indexArg_eq_some.mpr (show Names e.1 (⟨e.1.toNat, hlow⟩ : SourceId) from rfl), faderWrite]

theorem onArg_of_lt {b : Byte} (h : ¬ 2 ≤ b.toNat) : onArg b = some (decide (b = 1)) := by
  have hb : b = 0 ∨ b = 1 := by bv_omega
  obtain rfl | rfl := hb <;> rfl

theorem foldl_writeOn {s : State} {es : List (Byte × Byte)} (h : ∀ n, ¬ OnFails s es n) :
    es.foldl State.writeOn s = { s with sources := afterOn s es } := by
  rw [afterOn_eq]
  refine foldl_writes (fun t e he => ?_)
    (nodup_of_no_repeat fun n e he hr => h n ⟨e, he, .inr (.inr (.inl hr))⟩) s
  obtain ⟨n, he⟩ := List.mem_iff_getElem?.mp he
  have hlow : e.1.toNat < 32 := Nat.lt_of_not_le fun hl => h n ⟨e, he, .inr (.inl hl)⟩
  have hon : ¬ 2 ≤ e.2.toNat := fun hl => h n ⟨e, he, .inr (.inr (.inr (.inl hl)))⟩
  refine ⟨⟨e.1.toNat, hlow⟩, rfl, ?_⟩
  simp only [State.writeOn, indexArg_eq_some.mpr (show Names e.1 (⟨e.1.toNat, hlow⟩ : SourceId) from rfl), onArg_of_lt hon, onWrite]

end Sys2Proof.Machine

namespace Sys2Proof.Proofs

open Machine Claims

/-- Settles O19, by whether the arguments read and the source is free (R4, R5). -/
theorem setSourceKindNeedsAFreeSource : Obligations.SetSourceKindNeedsAFreeSource := by
  intro s b kb
  refine ⟨fun h => completes_of_owner rfl rfl ?_, ?_⟩
  · unfold ownerSetSourceKind
    split
    · next i k hi hk =>
      obtain h | h := h
      · rw [indexArg_eq_none.mpr h] at hi
        cases hi
      · rw [kindArg_eq_none h] at hk
        cases hk
    · rfl
  · rintro i k hb rfl
    refine ⟨fun h => completes_of_owner rfl rfl ?_, fun h => completes_of_owner rfl rfl ?_⟩ <;>
      simp only [ownerSetSourceKind, indexArg_eq_some.mpr hb, kindArg_byte]
    · exact if_pos ((s.free_iff i).mpr h)
    · exact if_neg (mt (s.free_iff i).mp h)

/-- Settles O20: the first failing entry refuses the list, and a list without one is written whole (R7, R8). -/
theorem faderAndOnListsWriteAllOrNothing : Obligations.FaderAndOnListsWriteAllOrNothing := by
  refine ⟨fun s es => ⟨fun n hn => completes_of_owner rfl rfl ?_, fun h => completes_of_owner rfl rfl ?_⟩,
    fun s es => ⟨fun n hn => completes_of_owner rfl rfl ?_, fun h => completes_of_owner rfl rfl ?_⟩⟩
  · rw [ownerSetFaders, (checkFader_decides s es).first hn]
    rfl
  · rw [ownerSetFaders, (checkFader_decides s es).pass h, foldl_writeFader h]
    simp only [State.markUnlessEmpty_eq, afterList]
  · rw [ownerSetSourceOn, (checkOn_decides s es).first hn]
    rfl
  · rw [ownerSetSourceOn, (checkOn_decides s es).pass h, foldl_writeOn h]
    simp only [State.markUnlessEmpty_eq, afterList]

end Sys2Proof.Proofs

namespace Sys2Proof.Machine

open Claims

/-! ## The cross-references of the tables

A step keeps `TablesLawful` mostly because it names nothing that was not named before: `State.RefersWithin` says so once, for every
operation that moves no stage, attachment, minus list, binding or air feed. The few operations that do have a lemma each. -/

/-- Every step that a port or the part itself takes keeps what arrivals, answers and the step's own event keep (R158, R162). -/
theorem State.perform_keeps {P : State → Prop} (hport : ∀ s p q, P s → P (s.setPort p q)) {c : Instr}
    {owner : State → State × Answer} (howner : ∀ s, P s → P (owner s).1) {s t : State} (hs : P s)
    (h : s.perform c owner = .next t) : P t := by
  unfold State.perform at h
  split at h
  · obtain rfl := Host.Outcome.next.inj h
    exact hs
  · next f hf =>
    obtain rfl := Host.Outcome.next.inj h
    obtain ⟨_, hr⟩ | ⟨_, u, hu, ht⟩ := s.runCommand_cases f owner
    · rwa [hr]
    · have hPu : P u := by
        obtain rfl | rfl := hu
        · exact hs
        · obtain ⟨slot, overrun, ha⟩ := s.arrive_frame f.port f.bytes (frameBits f.bytes).length
          rw [ha]
          exact hport _ _ _ hs
      obtain ⟨_, hr⟩ | ⟨_, hr⟩ := ht <;> rw [hr]
      · exact hport _ _ _ (howner u hPu)
      · exact hPu

theorem State.whenever_keeps {P : State → Prop} {s event t : State} {condition : Bool} (hs : P s)
    (he : condition = true → P event) (h : s.whenever condition event = .next t) : P t := by
  obtain hw | ⟨_, hc, hw⟩ := s.whenever_cases condition event <;> rw [hw] at h <;> obtain rfl := Host.Outcome.next.inj h
  · exact hs
  · exact he hc

/-! ### The requests of a return -/

/-- The requests a return holds, the active one first (R57). -/
def Arbitration.requests (a : Arbitration) : List Request := (a.active.map Active.request).toList ++ a.waiting

theorem Arbitration.mem_requests {a : Arbitration} {q : Request} :
    q ∈ a.requests ↔ (∃ x, a.active = some x ∧ x.request = q) ∨ q ∈ a.waiting := by
  simp [Arbitration.requests]

theorem Arbitration.requests_eq_nil {a : Arbitration} : a.requests = [] ↔ a = { active := none, waiting := [] } := by
  cases a
  simp [Arbitration.requests]

theorem promoted_requests {l : List Request} {q : Request} (h : q ∈ (promoted l).requests) : q ∈ l := by
  obtain ⟨x, hx, rfl⟩ | hq := Arbitration.mem_requests.mp h
  · exact ((promoted_sublist l).2 x hx).1
  · exact (promoted_sublist l).1.subset hq

theorem State.TablesLawful.requestKind {s : State} (h : s.TablesLawful) {r : ReturnId} {q : Request}
    (hq : q ∈ s.arbiter[r].requests) : s.sources[q.originator].kind = .talkback := by
  obtain ⟨x, hx, rfl⟩ | hq := Arbitration.mem_requests.mp hq
  · exact h.activeKind r x hx
  · exact h.waitingKind r q hq

theorem State.TablesLawful.requestOwned {s : State} (h : s.TablesLawful) {r : ReturnId} {q : Request}
    (hq : q ∈ s.arbiter[r].requests) {n : KeyId} (ho : q.origin = .key n) :
    ∃ b, s.keys[n].binding = some b ∧ b.originator = q.originator := by
  obtain ⟨x, hx, rfl⟩ | hq := Arbitration.mem_requests.mp hq
  · exact h.activeOwned r x n hx ho
  · exact h.waitingOwned r n q hq ho

/-- What a state must keep of the tables of another for the law to pass from the one to the other: it may drop guards and requests, and
take up requests that satisfy `new` on returns whose listener is not gone. -/
structure State.RefersWithin (new : Request → Prop) (s t : State) : Prop where
  kind : ∀ i : SourceId, t.sources[i].kind = s.sources[i].kind
  stage : ∀ i : SourceId, t.sources[i].stage = s.sources[i].stage
  guard : ∀ i : SourceId, t.sources[i].guard ≠ none → s.sources[i].guard ≠ none
  attached : ∀ r : ReturnId, t.returns[r].attached = s.returns[r].attached
  minusList : ∀ r : ReturnId, t.returns[r].minusList = s.returns[r].minusList
  requests : ∀ (r : ReturnId), ∀ q ∈ t.arbiter[r].requests, q ∈ s.arbiter[r].requests ∨ (new q ∧ s.listenerVacant r = false)
  binding : ∀ n : KeyId, t.keys[n].binding = s.keys[n].binding
  airFeed : t.airFeed = s.airFeed

theorem State.listenerVacant_iff {s : State} {r : ReturnId} :
    s.listenerVacant r = true ↔ ∃ i, s.returns[r].attached = some i ∧ s.sources[i].stage = .vacant := by
  unfold State.listenerVacant
  cases s.returns[r].attached <;> simp

theorem State.RefersWithin.listenerVacant {new : Request → Prop} {s t : State} (h : s.RefersWithin new t) (r : ReturnId) :
    t.listenerVacant r = s.listenerVacant r := by
  rw [Bool.eq_iff_iff, State.listenerVacant_iff, State.listenerVacant_iff]
  simp only [h.attached, h.stage]

/-- States that hold the same tables. -/
theorem State.RefersWithin.of_tables {new : Request → Prop} {s t : State} (hs : t.sources = s.sources) (hr : t.returns = s.returns)
    (ha : t.arbiter = s.arbiter) (hk : t.keys = s.keys) (hf : t.airFeed = s.airFeed) : s.RefersWithin new t :=
  ⟨fun _ => by rw [hs], fun _ => by rw [hs], fun _ h => by rwa [hs] at h, fun _ => by rw [hr], fun _ => by rw [hr],
    fun _ _ h => .inl (by rwa [ha] at h), fun _ => by rw [hk], hf⟩

theorem State.RefersWithin.refl {new : Request → Prop} (s : State) : s.RefersWithin new s := .of_tables rfl rfl rfl rfl rfl

theorem State.RefersWithin.trans {new : Request → Prop} {s t u : State} (h : s.RefersWithin new t) (k : t.RefersWithin new u) :
    s.RefersWithin new u where
  kind i := (k.kind i).trans (h.kind i)
  stage i := (k.stage i).trans (h.stage i)
  guard i hg := h.guard i (k.guard i hg)
  attached r := (k.attached r).trans (h.attached r)
  minusList r := (k.minusList r).trans (h.minusList r)
  requests r q hq := (k.requests r q hq).elim (h.requests r q) fun hn => .inr ⟨hn.1, h.listenerVacant r ▸ hn.2⟩
  binding n := (k.binding n).trans (h.binding n)
  airFeed := k.airFeed.trans h.airFeed

theorem State.RefersWithin.ite {new : Request → Prop} {s t u : State} {c : Prop} [Decidable c] (ht : s.RefersWithin new t)
    (hu : s.RefersWithin new u) : s.RefersWithin new (if c then t else u) := by
  split <;> assumption

/-- The law passes along, where the new requests come from TALKBACK sources and, from a key, under its binding (R79, R97). -/
theorem State.RefersWithin.tablesLawful {new : Request → Prop} {s t : State} (h : s.RefersWithin new t)
    (hkind : ∀ q, new q → s.sources[q.originator].kind = .talkback)
    (howned : ∀ q n, new q → q.origin = .key n → ∃ b, s.keys[n].binding = some b ∧ b.originator = q.originator)
    (hs : s.TablesLawful) : t.TablesLawful := by
  have hk : ∀ (r : ReturnId), ∀ q ∈ t.arbiter[r].requests, t.sources[q.originator].kind = .talkback := fun r q hq => by
    rw [h.kind]
    exact (h.requests r q hq).elim hs.requestKind fun hn => hkind q hn.1
  have ho : ∀ (r : ReturnId) (n : KeyId), ∀ q ∈ t.arbiter[r].requests, q.origin = .key n →
      ∃ b, t.keys[n].binding = some b ∧ b.originator = q.originator := fun r n q hq hn => by
    rw [h.binding]
    exact (h.requests r q hq).elim (fun hq => hs.requestOwned hq hn) fun hnew => howned q n hnew.1 hn
  exact
    { staged := fun i => by rw [h.stage, h.kind]; exact hs.staged i
      guarded := fun i hg => by rw [h.stage]; exact hs.guarded i (h.guard i hg)
      attachedKind := fun r i => by rw [h.attached, h.kind]; exact hs.attachedKind r i
      attachedOnce := fun r q i => by rw [h.attached, h.attached]; exact hs.attachedOnce r q i
      minusShort := fun r => by rw [h.minusList]; exact hs.minusShort r
      minusDistinct := fun r => by rw [h.minusList]; exact hs.minusDistinct r
      minusKind := fun r i => by rw [h.minusList, h.kind]; exact hs.minusKind r i
      activeKind := fun r x hx => hk r _ (Arbitration.mem_requests.mpr (.inl ⟨x, hx, rfl⟩))
      waitingKind := fun r q hq => hk r q (Arbitration.mem_requests.mpr (.inr hq))
      bindingKind := fun n b => by rw [h.binding, h.kind]; exact hs.bindingKind n b
      listening := fun r i ha hv => by
        rw [h.attached] at ha
        rw [h.stage] at hv
        have hgone : s.listenerVacant r = true := State.listenerVacant_iff.mpr ⟨i, ha, hv⟩
        rw [← Arbitration.requests_eq_nil, List.eq_nil_iff_forall_not_mem]
        intro q hq
        obtain hq | ⟨_, hn⟩ := h.requests r q hq
        · rw [Arbitration.requests_eq_nil.mpr (hs.listening r i ha hv)] at hq
          exact List.not_mem_nil hq
        · rw [hgone] at hn
          cases hn
      airFeedKind := fun i => by rw [h.airFeed, h.kind]; exact hs.airFeedKind i
      activeOwned := fun r x n hx => ho r n _ (Arbitration.mem_requests.mpr (.inl ⟨x, hx, rfl⟩))
      waitingOwned := fun r n q hq => ho r n q (Arbitration.mem_requests.mpr (.inr hq)) }

/-- No request taken up. -/
theorem State.RefersWithin.keeps {s t : State} (h : s.RefersWithin (fun _ => False) t) (hs : s.TablesLawful) : t.TablesLawful :=
  h.tablesLawful (fun _ h => h.elim) (fun _ _ h => h.elim) hs

end Sys2Proof.Machine

namespace Sys2Proof.Machine

open Claims

/-! ### Operations that refer within the tables they find -/

section Within

variable {new : Request → Prop} (s : State)

theorem State.setSource_within (i : SourceId) {x : Source} (hk : x.kind = s.sources[i].kind) (hs : x.stage = s.sources[i].stage)
    (hg : x.guard ≠ none → s.sources[i].guard ≠ none) : s.RefersWithin new (s.setSource i x) where
  kind j := by
    rw [State.setSource_read]
    split
    · next h => rw [← h, hk]
    · rfl
  stage j := by
    rw [State.setSource_read]
    split
    · next h => rw [← h, hs]
    · rfl
  guard j := by
    rw [State.setSource_read]
    split
    · next h => rwa [← h]
    · exact id
  attached _ := rfl
  minusList _ := rfl
  requests _ _ := .inl
  binding _ := rfl
  airFeed := rfl

theorem State.setReturn_within (r : ReturnId) {x : Return} (ha : x.attached = s.returns[r].attached)
    (hm : x.minusList = s.returns[r].minusList) : s.RefersWithin new (s.setReturn r x) where
  kind _ := rfl
  stage _ := rfl
  guard _ := id
  attached q := by
    rw [State.setReturn_read]
    split
    · next h => rw [← h, ha]
    · rfl
  minusList q := by
    rw [State.setReturn_read]
    split
    · next h => rw [← h, hm]
    · rfl
  requests _ _ := .inl
  binding _ := rfl
  airFeed := rfl

theorem State.setArbitration_within (r : ReturnId) {a : Arbitration}
    (h : ∀ q ∈ a.requests, q ∈ s.arbiter[r].requests ∨ (new q ∧ s.listenerVacant r = false)) :
    s.RefersWithin new (s.setArbitration r a) where
  kind _ := rfl
  stage _ := rfl
  guard _ := id
  attached _ := rfl
  minusList _ := rfl
  requests q p hp := by
    rw [State.setArbitration_read] at hp
    split at hp
    · next hr => exact hr ▸ h p hp
    · exact .inl hp
  binding _ := rfl
  airFeed := rfl

theorem State.setKey_within (n : KeyId) {k : Key} (h : k.binding = s.keys[n].binding) : s.RefersWithin new (s.setKey n k) where
  kind _ := rfl
  stage _ := rfl
  guard _ := id
  attached _ := rfl
  minusList _ := rfl
  requests _ _ := .inl
  binding m := by
    rw [State.setKey_read]
    split
    · next hn => rw [← hn, h]
    · rfl
  airFeed := rfl

theorem State.setPort_within (p : Port) (q : PortState) : s.RefersWithin new (s.setPort p q) := .of_tables rfl rfl rfl rfl rfl

theorem State.raise_within (k : NoticeKind) (i : Nat) : s.RefersWithin new (s.raise k i) := .of_tables rfl rfl rfl rfl rfl

theorem State.mark_within (ρ : Row) (talk : Bool) : s.RefersWithin new (s.mark ρ talk) := .of_tables rfl rfl rfl rfl rfl

theorem State.setConference_within (k : ConferenceId) (x : Conference) : s.RefersWithin new (s.setConference k x) :=
  .of_tables rfl rfl rfl rfl rfl

theorem State.markRows_within (p : Row → Bool) : s.RefersWithin new (s.markRows p) := by
  rw [State.markRows_eq]
  exact .of_tables rfl rfl rfl rfl rfl

theorem State.markUnlessEmpty_within {α : Type} (es : List α) (p : Row → Bool) : s.RefersWithin new (s.markUnlessEmpty es p) := by
  unfold State.markUnlessEmpty
  split
  · exact .refl s
  · exact s.markRows_within p

/-- A loop whose rounds refer within the tables does so as a whole. -/
theorem State.foldl_within {β : Type} {f : State → β → State} (h : ∀ (t : State) b, t.RefersWithin new (f t b)) (l : List β) :
    s.RefersWithin new (l.foldl f s) :=
  foldl_keeps (fun t => s.RefersWithin new t) f (fun t b ht => ht.trans (h t b)) l s (.refl s)

/-! ### Conferences -/

theorem State.unlist_within (k : ConferenceId) (i : SourceId) : s.RefersWithin new (s.unlist k i) := s.setConference_within k _

theorem State.setMembership_within (i : SourceId) (k : Option ConferenceId) : s.RefersWithin new (s.setMembership i k) :=
  s.setSource_within i rfl rfl id

theorem State.exitConference_within (i : SourceId) : s.RefersWithin new (s.exitConference i) := by
  unfold State.exitConference
  split
  · exact .refl s
  · next k _ =>
    exact (s.unlist_within k i).trans ((State.setMembership_within _ i none).trans (State.raise_within _ _ _))

theorem State.enterConference_within (i : SourceId) (k : ConferenceId) : s.RefersWithin new (s.enterConference i k) := by
  unfold State.enterConference
  dsimp only
  split
  · exact (s.setConference_within k _).trans (State.setMembership_within _ i _)
  · next prior _ =>
    exact (s.unlist_within prior i).trans ((State.setConference_within _ k _).trans (State.setMembership_within _ i _))

/-! ### List commands -/

theorem State.writeFader_within (e : Byte × Coeff) : s.RefersWithin new (s.writeFader e) := by
  unfold State.writeFader
  split
  · exact .refl s
  · exact s.setSource_within _ rfl rfl id

theorem State.writeOn_within (e : Byte × Byte) : s.RefersWithin new (s.writeOn e) := by
  unfold State.writeOn
  split
  · exact s.setSource_within _ rfl rfl id
  · exact .refl s

theorem State.writeReturn_within (e : ReturnEntry) : s.RefersWithin new (s.writeReturn e) := by
  unfold State.writeReturn
  split
  · exact s.setReturn_within _ rfl rfl
  · exact .refl s

/-! ### The arbiter -/

theorem State.countRefusal_within (r : ReturnId) : s.RefersWithin new (s.countRefusal r) := s.setReturn_within r rfl rfl

theorem preemptedList_subset (old : Request) (waiting : List Request) : (preemptedList old waiting).1 ⊆ old :: waiting := by
  unfold preemptedList
  dsimp only
  split
  · exact List.Subset.refl _
  · split
    · exact List.Subset.refl _
    · next h =>
      obtain ⟨n, _, rfl⟩ := pick_splits h
      exact List.eraseIdx_subset

/-- A decision adds no request but the one decided, and that one only where the listener is there (R59 to R63). -/
theorem Arbitration.decide_requests (gone : Bool) (a : Arbitration) (q : Request) :
    ∀ p ∈ (a.decide gone q).2.requests, p ∈ a.requests ∨ (p = q ∧ gone = false) := by
  intro p hp
  unfold Arbitration.decide at hp
  split at hp
  · exact .inl hp
  · next hgone =>
    suffices h : p ∈ a.requests ∨ p = q from h.imp id fun hq => ⟨hq, by simpa using hgone⟩
    split at hp
    · exact .inl hp
    · split at hp
      · obtain ⟨y, hy, rfl⟩ | hp := Arbitration.mem_requests.mp hp
        · obtain rfl := Option.some.inj hy
          exact .inr rfl
        · exact .inl (Arbitration.mem_requests.mpr (.inr hp))
      · next x hx =>
        have hx' : x.request ∈ a.requests := Arbitration.mem_requests.mpr (.inl ⟨x, hx, rfl⟩)
        split at hp
        · obtain ⟨y, hy, rfl⟩ | hp := Arbitration.mem_requests.mp hp
          · obtain rfl := Option.some.inj hy
            exact .inr rfl
          · obtain rfl | hp := List.mem_cons.mp (preemptedList_subset _ _ hp)
            · exact .inl hx'
            · exact .inl (Arbitration.mem_requests.mpr (.inr hp))
        · split at hp
          · obtain hp | hp := Arbitration.mem_requests.mp hp
            · exact .inl (Arbitration.mem_requests.mpr (.inl hp))
            · obtain hp | hp := List.mem_append.mp hp
              · exact .inl (Arbitration.mem_requests.mpr (.inr hp))
              · exact .inr (List.mem_singleton.mp hp)
          · exact .inl hp

/-- A request aimed at a return takes up no request but itself (R59 to R65). -/
theorem State.talkOn_within (r : ReturnId) {q : Request} (hq : new q) : s.RefersWithin new (s.talkOn r q).1 := by
  have ha : s.RefersWithin new (s.setArbitration r (s.arbiter[r].decide (s.listenerVacant r) q).2) :=
    s.setArbitration_within r fun p hp => (Arbitration.decide_requests _ _ q p hp).imp id (And.imp_left fun (h : p = q) => h ▸ hq)
  unfold State.talkOn
  dsimp only
  split
  · exact ha.trans (State.mark_within _ _ _)
  · exact ha.trans ((State.mark_within _ _ _).trans (State.raise_within _ _ _))
  · exact ha
  · exact s.countRefusal_within r

theorem State.visit_within (r : ReturnId) {q : Request} (hq : new q) : s.RefersWithin new (s.visit r q).1 := by
  unfold State.visit
  split
  · exact s.talkOn_within r hq
  · exact .refl s
  · exact s.countRefusal_within r

theorem State.talkGroup_within (t : TagId) {q : Request} (hq : new q) : s.RefersWithin new (s.talkGroup t q).1 :=
  foldl_keeps (fun d : State × List TalkEntry => s.RefersWithin new d.1) _
    (fun d r hd => by
      split
      · have h := d.1.visit_within r hq
        rcases hr : d.1.visit r q with ⟨u, _ | o⟩ <;> rw [hr] at h <;> exact hd.trans h
      · exact hd)
    (List.finRange 24) (s, []) (.refl s)

/-- What a release leaves on a return, the return held before, and it does not match (R67 to R69). -/
theorem Arbitration.release_some {p : Request → Bool} {a b : Arbitration} {rel : Released} (h : a.release p = some (rel, b)) :
    ∀ q ∈ b.requests, q ∈ a.requests ∧ p q = false := by
  have hrest : ∀ q ∈ a.waiting.filter fun q => !p q, q ∈ a.requests ∧ p q = false := fun q hq => by
    rw [List.mem_filter, Bool.not_eq_true'] at hq
    exact ⟨Arbitration.mem_requests.mpr (.inr hq.1), hq.2⟩
  unfold Arbitration.release at h
  dsimp only at h
  split at h
  · obtain ⟨_, rfl⟩ := Prod.mk.inj (Option.some.inj h)
    exact fun q hq => hrest q (promoted_requests hq)
  · next hactive =>
    split at h
    · cases h
    · obtain ⟨_, rfl⟩ := Prod.mk.inj (Option.some.inj h)
      intro q hq
      obtain ⟨x, hx, rfl⟩ | hq := Arbitration.mem_requests.mp hq
      · refine ⟨Arbitration.mem_requests.mpr (.inl ⟨x, hx, rfl⟩), ?_⟩
        simpa [show a.active = some x from hx] using hactive
      · exact hrest q hq

/-- A release that finds nothing leaves nothing that matches (R67). -/
theorem Arbitration.release_none {p : Request → Bool} {a : Arbitration} (h : a.release p = none) : ∀ q ∈ a.requests, p q = false := by
  unfold Arbitration.release at h
  dsimp only at h
  split at h
  · cases h
  · next hactive =>
    split at h
    · next hgone =>
      intro q hq
      obtain ⟨x, hx, rfl⟩ | hq := Arbitration.mem_requests.mp hq
      · simpa [hx] using hactive
      · have hlen : (a.waiting.filter fun q => !p q).length = a.waiting.length :=
          Nat.le_antisymm (List.length_filter_le _ _) (Nat.sub_eq_zero_iff_le.mp hgone)
        simpa using List.length_filter_eq_length_iff.mp hlen q hq
    · cases h

theorem State.releaseOn_within (r : ReturnId) (p : Request → Bool) : s.RefersWithin new (s.releaseOn r p).1 := by
  unfold State.releaseOn
  split
  · exact .refl s
  · next rel a h =>
    have ha : s.RefersWithin new (s.setArbitration r a) :=
      s.setArbitration_within r fun q hq => .inl (Arbitration.release_some h q hq).1
    have hm := ha.trans (.ite (c := rel.wasActive = true) (State.mark_within _ (.ret r) true) (.refl _))
    exact hm.trans (.ite (State.raise_within _ _ _) (.refl _))

theorem State.releaseOn_clears (r : ReturnId) (p : Request → Bool) :
    ∀ q ∈ (s.releaseOn r p).1.arbiter[r].requests, p q = false := by
  unfold State.releaseOn
  split
  · next h => exact Arbitration.release_none h
  · next rel a h =>
    have ha : ∀ q ∈ (s.setArbitration r a).arbiter[r].requests, p q = false := by
      rw [State.setArbitration_same]
      exact fun q hq => (Arbitration.release_some h q hq).2
    dsimp only
    split <;> split <;> exact ha

theorem State.releaseAll_within (p : Request → Bool) : s.RefersWithin new (s.releaseAll p).1 :=
  foldl_keeps (fun d : State × List (ReturnId × Released) => s.RefersWithin new d.1) _
    (fun d r hd => by
      have h := d.1.releaseOn_within (new := new) r p
      rcases hr : d.1.releaseOn r p with ⟨u, _ | rel⟩ <;> rw [hr] at h <;> exact hd.trans h)
    (List.finRange 24) (s, []) (.refl s)

end Within

end Sys2Proof.Machine

namespace Sys2Proof.Machine

open Claims

/-! ### Releases, expiries and frames -/

/-- What a round of a loop establishes and later rounds keep holds after the loop. -/
theorem foldl_establishes {α β : Type} {P : β → α → Prop} {f : α → β → α} (own : ∀ a b, P b (f a b))
    (keep : ∀ a b c, P c a → P c (f a b)) (l : List β) (a : α) : ∀ b ∈ l, P b (l.foldl f a) := by
  induction l generalizing a with
  | nil => exact fun b hb => absurd hb List.not_mem_nil
  | cons c l ih =>
    intro b hb
    obtain rfl | hb := List.mem_cons.mp hb
    · exact foldl_keeps (P b) f (fun a c => keep a c b) l _ (own a b)
    · exact ih _ b hb

/-- After a release on every return no request that matches is left (R88, R97). -/
theorem State.releaseAll_clears (s : State) (p : Request → Bool) (r : ReturnId) :
    ∀ q ∈ (s.releaseAll p).1.arbiter[r].requests, p q = false := by
  unfold State.releaseAll
  refine foldl_establishes (P := fun (r : ReturnId) (d : State × List (ReturnId × Released)) => ∀ q ∈ d.1.arbiter[r].requests, p q = false)
    (fun d r => ?_) (fun d r r' hd => ?_) (List.finRange 24) (s, []) r (List.mem_finRange r)
  · have h := d.1.releaseOn_clears r p
    rcases hr : d.1.releaseOn r p with ⟨u, _ | rel⟩ <;> rw [hr] at h <;> exact h
  · have h := fun q hq => hd q (((d.1.releaseOn_within (new := fun _ => False) r p).requests r' q hq).resolve_right fun h => h.1)
    rcases hr : d.1.releaseOn r p with ⟨u, _ | rel⟩ <;> rw [hr] at h <;> exact h

section Within

variable {new : Request → Prop} (s : State)

theorem State.silence_within (r : ReturnId) : s.RefersWithin new (s.setArbitration r { active := none, waiting := [] }) :=
  s.setArbitration_within r fun _ hq => absurd hq List.not_mem_nil

theorem State.expireHold_within (r : ReturnId) : s.RefersWithin new (s.expireHold r) := by
  unfold State.expireHold
  have ha : s.RefersWithin new (s.setArbitration r (promoted s.arbiter[r].waiting)) :=
    s.setArbitration_within r fun q hq => .inl (Arbitration.mem_requests.mpr (.inr (promoted_requests hq)))
  have hi := ha.trans (.ite (c := (promoted s.arbiter[r].waiting).active.isSome = true)
    (State.raise_within _ .interruptStarted r.val) (.refl _))
  exact hi.trans ((State.raise_within _ _ _).trans (State.mark_within _ _ _))

theorem Arbitration.tick_requests (a : Arbitration) : a.tick.requests = a.requests := by
  cases a with | mk active waiting => cases active <;> rfl

theorem State.withArbiter_within (v : Vector Arbitration 24)
    (h : ∀ (r : ReturnId), ∀ q ∈ v[r].requests, q ∈ s.arbiter[r].requests) : s.RefersWithin new { s with arbiter := v } where
  kind _ := rfl
  stage _ := rfl
  guard _ := id
  attached _ := rfl
  minusList _ := rfl
  requests r q hq := .inl (h r q hq)
  binding _ := rfl
  airFeed := rfl

theorem State.withSources_within (v : Vector Source 32) (hk : ∀ i : SourceId, v[i].kind = s.sources[i].kind)
    (hs : ∀ i : SourceId, v[i].stage = s.sources[i].stage) (hg : ∀ i : SourceId, v[i].guard ≠ none → s.sources[i].guard ≠ none) :
    s.RefersWithin new { s with sources := v } where
  kind := hk
  stage := hs
  guard := hg
  attached _ := rfl
  minusList _ := rfl
  requests _ _ := .inl
  binding _ := rfl
  airFeed := rfl

theorem State.tickHolds_within : s.RefersWithin new s.tickHolds :=
  s.withArbiter_within _ fun r q hq => by simpa [Arbitration.tick_requests] using hq

theorem State.tickGuards_within : s.RefersWithin new s.tickGuards :=
  s.withSources_within _ (fun i => by simp) (fun i => by simp) (fun i => by simp)

theorem State.hearSource_within (x : Vector Sample 32) (i : SourceId) : s.RefersWithin new (s.hearSource x i) := by
  have hear : ∀ limit isLoud (y : Source), (y.hear limit isLoud).kind = y.kind ∧ (y.hear limit isLoud).stage = y.stage ∧
      (y.hear limit isLoud).guard = y.guard := fun limit isLoud y => by
    unfold Source.hear
    split <;> exact ⟨rfl, rfl, rfl⟩
  obtain ⟨hk, hs, hg⟩ := hear s.silenceLimit (loud s.silenceThreshold x[i]) s.sources[i]
  have hset := s.setSource_within (new := new) i hk hs (by rw [hg]; exact id)
  unfold State.hearSource
  exact .ite (.ite (hset.trans (State.raise_within _ _ _)) hset) (.refl s)

theorem State.countClip_within (r : ReturnId) : s.RefersWithin new (s.countClip r) := by
  rw [State.countClip_frame]
  exact .of_tables rfl rfl rfl rfl rfl

theorem State.watchTick_within : s.RefersWithin new s.watchTick := by
  unfold State.watchTick
  rw [State.closeInterval_frame]
  exact .ite (.of_tables rfl rfl rfl rfl rfl) (.of_tables rfl rfl rfl rfl rfl)

theorem State.lockSync_within : s.RefersWithin new s.lockSync := by
  unfold State.lockSync
  dsimp only
  split <;> exact .of_tables rfl rfl rfl rfl rfl

theorem State.mix_within (x : Vector Sample 32) : s.RefersWithin new (s.mix x) := by
  unfold State.mix State.rampAll
  exact .of_tables rfl rfl rfl rfl rfl

theorem State.endFrame_within : s.RefersWithin new s.endFrame := .of_tables rfl rfl rfl rfl rfl

theorem State.hearAll_within (x : Vector Sample 32) : s.RefersWithin new (s.hearAll x) :=
  s.foldl_within (fun t i => t.hearSource_within x i) (List.finRange 32)

theorem State.countClips_within (flags : Vector Bool 24) : s.RefersWithin new (s.countClips flags) :=
  s.foldl_within (fun t r => .ite (t.countClip_within r) (.refl t)) (List.finRange 24)

/-- A frame arrival refers within the tables it finds (R119, R144). -/
theorem State.takeFrame_within (slots : Vector SlotWord 32) : s.RefersWithin new (s.takeFrame slots) := by
  unfold State.takeFrame
  exact s.endFrame_within.trans ((State.mix_within _ _).trans ((State.tickGuards_within _).trans ((State.tickHolds_within _).trans
    ((State.hearAll_within _ _).trans ((State.countClips_within _ _).trans
      ((State.watchTick_within _).trans (State.lockSync_within _)))))))

end Within

end Sys2Proof.Machine

namespace Sys2Proof.Machine

open Claims

/-! ### Operations that change what the tables refer to -/

section Changes

variable {s : State}

/-- A caller's or codec's record rewritten: it may not come to VACANT while a return it is attached to holds a request (R3, R20, R73). -/
theorem State.TablesLawful.setSource (h : s.TablesLawful) (i : SourceId) {x : Source} (hk : x.kind = s.sources[i].kind)
    (hr : Remote s.sources[i]) (hg : x.guard ≠ none → x.stage = .screen ∨ x.stage = .hold ∨ x.stage = .ready)
    (hv : x.stage = .vacant → ∀ r : ReturnId, s.returns[r].attached = some i → s.arbiter[r] = { active := none, waiting := [] }) :
    (s.setSource i x).TablesLawful := by
  have hkind : ∀ j : SourceId, (s.setSource i x).sources[j].kind = s.sources[j].kind := fun j => by
    rw [State.setSource_read]
    split
    · next hj => rw [← hj, hk]
    · rfl
  exact
    { staged := fun j => by
        rw [hkind, State.setSource_read]
        split
        · next hj => exact fun _ => hj ▸ hr
        · exact h.staged j
      guarded := fun j => by
        rw [State.setSource_read]
        split
        · exact hg
        · exact h.guarded j
      attachedKind := fun r j => by rw [hkind]; exact h.attachedKind r j
      attachedOnce := h.attachedOnce
      minusShort := h.minusShort
      minusDistinct := h.minusDistinct
      minusKind := fun r j => by rw [hkind]; exact h.minusKind r j
      activeKind := fun r a => by rw [hkind]; exact h.activeKind r a
      waitingKind := fun r q => by rw [hkind]; exact h.waitingKind r q
      bindingKind := fun n b => by rw [hkind]; exact h.bindingKind n b
      listening := fun r j => by
        rw [State.setSource_read]
        split
        · next hj => exact fun ha hs => hv hs r (hj ▸ ha)
        · exact h.listening r j
      airFeedKind := fun j => by rw [hkind]; exact h.airFeedKind j
      activeOwned := h.activeOwned
      waitingOwned := h.waitingOwned }

/-- A free source's kind rewritten (R4, R5): nothing refers to it. -/
theorem State.TablesLawful.setKind (h : s.TablesLawful) {i : SourceId} (hf : Free s i) {x : Source}
    (hs : x.stage = s.sources[i].stage) (hg : x.guard = s.sources[i].guard) : (s.setSource i x).TablesLawful := by
  have hother : ∀ j : SourceId, j ≠ i → (s.setSource i x).sources[j] = s.sources[j] := fun j hj => by
    rw [State.setSource_read, if_neg (Ne.symm hj)]
  have hvacant : x.stage = .vacant := hs.trans hf.vacant
  have hguard : x.guard = none := by
    rw [hg]
    by_contra hne
    rcases h.guarded i hne with hst | hst | hst <;> rw [hf.vacant] at hst <;> cases hst
  exact
    { staged := fun j hj => by
        by_cases hij : j = i
        · rw [hij, State.setSource_same] at hj
          exact absurd hvacant hj
        · rw [hother j hij] at hj ⊢
          exact h.staged j hj
      guarded := fun j hj => by
        by_cases hij : j = i
        · rw [hij, State.setSource_same] at hj
          exact absurd hguard hj
        · rw [hother j hij] at hj ⊢
          exact h.guarded j hj
      attachedKind := fun r j ha => by
        rw [hother j fun hij => hf.unattached r (hij ▸ ha)]
        exact h.attachedKind r j ha
      attachedOnce := h.attachedOnce
      minusShort := h.minusShort
      minusDistinct := h.minusDistinct
      minusKind := fun r j hj => by
        rw [hother j fun hij => hf.unlisted r (hij ▸ hj)]
        exact h.minusKind r j hj
      activeKind := fun r a ha => by
        rw [hother _ (hf.silentNow r a ha)]
        exact h.activeKind r a ha
      waitingKind := fun r q hq => by
        rw [hother _ (hf.silentNext r q hq)]
        exact h.waitingKind r q hq
      bindingKind := fun n b hb => by
        rw [hother _ (hf.unbound n b hb)]
        exact h.bindingKind n b hb
      listening := fun r j ha => by
        rw [hother j fun hij => hf.unattached r (hij ▸ ha)]
        exact h.listening r j ha
      airFeedKind := fun j hj => by
        rw [hother j fun hij => hf.notFeed (hij ▸ hj)]
        exact h.airFeedKind j hj
      activeOwned := h.activeOwned
      waitingOwned := h.waitingOwned }

/-- A return's attachment rewritten (R25 to R27): to a caller or codec that no other return has, with no request held where it is
VACANT. -/
theorem State.TablesLawful.attach (h : s.TablesLawful) (r : ReturnId) (a : Option SourceId)
    (hk : ∀ i, a = some i → Remote s.sources[i]) (ho : ∀ i, a = some i → ∀ q : ReturnId, q ≠ r → s.returns[q].attached ≠ some i)
    (hv : ∀ i, a = some i → s.sources[i].stage = .vacant → s.arbiter[r] = { active := none, waiting := [] }) :
    (s.setReturn r { s.returns[r] with attached := a }).TablesLawful := by
  have hread : ∀ q : ReturnId, (s.setReturn r { s.returns[r] with attached := a }).returns[q] =
      if r = q then { s.returns[r] with attached := a } else s.returns[q] := fun q => State.setReturn_read s r q _
  have hminus : ∀ q : ReturnId, (s.setReturn r { s.returns[r] with attached := a }).returns[q].minusList = s.returns[q].minusList :=
    fun q => by
      rw [hread]
      split
      · next hq => rw [hq]
      · rfl
  have hatt : ∀ (q : ReturnId) (i : SourceId), (s.setReturn r { s.returns[r] with attached := a }).returns[q].attached = some i →
      (q = r ∧ a = some i) ∨ (q ≠ r ∧ s.returns[q].attached = some i) := fun q i hq => by
    rw [hread] at hq
    split at hq
    · next hrq => exact .inl ⟨hrq.symm, hq⟩
    · next hrq => exact .inr ⟨Ne.symm hrq, hq⟩
  exact
    { staged := h.staged
      guarded := h.guarded
      attachedKind := fun q i hq => (hatt q i hq).elim (fun hn => hk i hn.2) fun hn => h.attachedKind q i hn.2
      attachedOnce := fun q q' i hq hq' => by
        obtain ⟨rfl, ha⟩ | ⟨hne, ha⟩ := hatt q i hq <;> obtain ⟨rfl, ha'⟩ | ⟨hne', ha'⟩ := hatt q' i hq'
        · rfl
        · exact absurd ha' (ho i ha q' hne')
        · exact absurd ha (ho i ha' q hne)
        · exact h.attachedOnce q q' i ha ha'
      minusShort := fun q => by rw [hminus]; exact h.minusShort q
      minusDistinct := fun q => by rw [hminus]; exact h.minusDistinct q
      minusKind := fun q i => by rw [hminus]; exact h.minusKind q i
      activeKind := h.activeKind
      waitingKind := h.waitingKind
      bindingKind := h.bindingKind
      listening := fun q i hq hs => by
        obtain ⟨rfl, ha⟩ | ⟨_, ha⟩ := hatt q i hq
        · exact hv i ha hs
        · exact h.listening q i ha hs
      airFeedKind := h.airFeedKind
      activeOwned := h.activeOwned
      waitingOwned := h.waitingOwned }

/-- A return's extra minus list rewritten (R29, R30). -/
theorem State.TablesLawful.setMinus (h : s.TablesLawful) (r : ReturnId) {x : Return} (ha : x.attached = s.returns[r].attached)
    (hl : x.minusList.length ≤ 4) (hd : x.minusList.Nodup) (hk : ∀ i ∈ x.minusList, Joinable s.sources[i]) :
    (s.setReturn r x).TablesLawful := by
  have hatt : ∀ q : ReturnId, (s.setReturn r x).returns[q].attached = s.returns[q].attached := fun q => by
    rw [State.setReturn_read]
    split
    · next hq => rw [← hq, ha]
    · rfl
  have hminus : ∀ P : List SourceId → Prop, P x.minusList → (∀ q : ReturnId, P s.returns[q].minusList) →
      ∀ q : ReturnId, P (s.setReturn r x).returns[q].minusList := fun P hx hs q => by
    rw [State.setReturn_read]
    split
    · exact hx
    · exact hs q
  exact
    { h with
      attachedKind := fun q i => by rw [hatt]; exact h.attachedKind q i
      attachedOnce := fun q q' i => by rw [hatt, hatt]; exact h.attachedOnce q q' i
      minusShort := hminus (fun l => l.length ≤ 4) hl h.minusShort
      minusDistinct := hminus List.Nodup hd h.minusDistinct
      minusKind := hminus (fun l => ∀ i ∈ l, Joinable s.sources[i]) hk h.minusKind
      listening := fun q i => by rw [hatt]; exact h.listening q i }

/-- A key's binding rewritten while no request of its origin stands (R96, R97). -/
theorem State.TablesLawful.bind (h : s.TablesLawful) (n : KeyId) {k : Key}
    (hk : ∀ b, k.binding = some b → s.sources[b.originator].kind = .talkback)
    (hn : ∀ (r : ReturnId), ∀ q ∈ s.arbiter[r].requests, q.origin ≠ .key n) : (s.setKey n k).TablesLawful := by
  have howned : ∀ (r : ReturnId) (m : KeyId), ∀ q ∈ s.arbiter[r].requests, q.origin = .key m →
      ∃ b, (s.setKey n k).keys[m].binding = some b ∧ b.originator = q.originator := fun r m q hq ho => by
    have hne : n ≠ m := fun hnm => hn r q hq (hnm ▸ ho)
    rw [State.setKey_read, if_neg hne]
    exact h.requestOwned hq ho
  exact
    { h with
      bindingKind := fun m b => by
        rw [State.setKey_read]
        split
        · exact hk b
        · exact h.bindingKind m b
      activeOwned := fun r x m hx => howned r m _ (Arbitration.mem_requests.mpr (.inl ⟨x, hx, rfl⟩))
      waitingOwned := fun r m q hq => howned r m q (Arbitration.mem_requests.mpr (.inr hq)) }

/-- The air feed rewritten (R18). -/
theorem State.TablesLawful.setAirFeed (h : s.TablesLawful) (a : Option SourceId) (hk : ∀ i, a = some i → s.sources[i].kind = .air) :
    ({ s with airFeed := a } : State).TablesLawful := { h with airFeedKind := hk }

end Changes

end Sys2Proof.Machine

namespace Sys2Proof.Machine

open Claims

/-! ### The commands of the owning blocks -/

section Owners

variable {s : State}

theorem State.withRemote_keeps {P : State → Prop} (b : Byte) {act : SourceId → State × Answer} (hs : P s)
    (h : ∀ i, Remote s.sources[i] → P (act i).1) : P (s.withRemote b act).1 := by
  unfold State.withRemote
  split
  · exact hs
  · next i _ =>
    split
    · next hr => exact h i ((Kind.hasStage_iff _).mp hr)
    · exact hs

theorem State.TablesLawful.moveStage (h : s.TablesLawful) {i : SourceId} (hr : Remote s.sources[i]) {g : Stage}
    (hg : g = .screen ∨ g = .hold ∨ g = .ready) : (s.moveStage i g).TablesLawful :=
  (State.markRows_within _ _).keeps (h.setSource i rfl hr (fun _ => hg) fun hv => by
    obtain rfl | rfl | rfl := hg <;> cases hv)

theorem State.TablesLawful.putOnAir (h : s.TablesLawful) {i : SourceId} (hr : Remote s.sources[i]) : (s.putOnAir i).TablesLawful := by
  have hset : (s.setSource i { s.sources[i] with stage := .air, guard := none }).TablesLawful :=
    h.setSource i rfl hr (fun hn => absurd rfl hn) fun hv => by cases hv
  exact ((State.exitConference_within _ i).trans ((State.raise_within _ _ _).trans (State.markRows_within _ _))).keeps hset

theorem State.TablesLawful.dropToHold (h : s.TablesLawful) {i : SourceId} (hr : Remote s.sources[i]) :
    (s.dropToHold i).TablesLawful := by
  unfold State.dropToHold
  exact ((State.raise_within _ _ _).trans (State.markRows_within _ _)).keeps
    (h.setSource i rfl hr (fun _ => .inr (.inl rfl)) fun hv => by cases hv)

/-- The arbiter with the requests of a source's listeners removed (R73). -/
def State.silenced (s : State) (i : SourceId) : Vector Arbitration 24 :=
  Vector.ofFn fun r => if s.returns[r].attached = some i then { active := none, waiting := [] } else s.arbiter[r]

theorem afterListenersGone_frame (s : State) (i : SourceId) (q : List QueueEntry) :
    ∃ q' ps, afterListenersGone s i q = { s with arbiter := s.silenced i, queue := q', ports := ps } := by
  unfold afterListenersGone
  rw [State.raiseEach_frame]
  simp only [decide_eq_true_eq]
  exact ⟨_, _, rfl⟩

/-- A source brought to VACANT with the requests of its listeners removed (R15, R16, R73). -/
theorem State.TablesLawful.vacate (h : s.TablesLawful) {i : SourceId} (hr : Remote s.sources[i]) {x : Source}
    (hk : x.kind = s.sources[i].kind) (hg : x.guard = none) :
    ({ s with sources := s.sources.set i x, arbiter := s.silenced i } : State).TablesLawful := by
  have hread : ∀ r : ReturnId, (s.silenced i)[r] = if s.returns[r].attached = some i then { active := none, waiting := [] } else s.arbiter[r] :=
    fun r => by simp [State.silenced]
  have hquiet : ({ s with arbiter := s.silenced i } : State).TablesLawful :=
    (s.withArbiter_within _ fun r q hq => by
      rw [hread] at hq
      split at hq
      · exact absurd hq List.not_mem_nil
      · exact hq).keeps h
  exact hquiet.setSource i hk hr (fun hn => absurd hg hn) fun _ r ha => (hread r).trans (if_pos ha)

theorem State.TablesLawful.afterListenersGone (h : s.TablesLawful) {i : SourceId} (hr : Remote s.sources[i]) {x : Source}
    (hk : x.kind = s.sources[i].kind) (hg : x.guard = none) (cs : Vector Conference 4) (q : List QueueEntry) :
    (Claims.afterListenersGone { s with sources := s.sources.set i x, conferences := cs } i q).TablesLawful := by
  obtain ⟨q', ps, hf⟩ := afterListenersGone_frame { s with sources := s.sources.set i x, conferences := cs } i q
  rw [hf]
  refine State.RefersWithin.keeps ?_ (h.vacate hr hk hg)
  exact .of_tables rfl rfl rfl rfl rfl

theorem State.TablesLawful.endCall (h : s.TablesLawful) {i : SourceId} (hr : Remote s.sources[i]) : (s.endCall i).TablesLawful := by
  have hgone := h.afterListenersGone hr (x := { s.sources[i] with
    stage := .vacant, guard := none, conference := none, silent := false, silenceCount := 0 }) rfl rfl (without s i)
    (joinQueue s.queue (dependent s i) false)
  rw [State.endCall_eq]
  exact (State.RefersWithin.ite (State.raise_within _ _ _) (.refl _)).keeps hgone

theorem State.TablesLawful.forceDrop (h : s.TablesLawful) {i : SourceId} (hr : Remote s.sources[i])
    (hs : s.sources[i].stage = .air) : (s.forceDrop i).TablesLawful := by
  have hguard : s.sources[i].guard = none := by
    by_contra hg
    rcases h.guarded i hg with hst | hst | hst <;> rw [hs] at hst <;> cases hst
  have hgone := h.afterListenersGone hr (x := { s.sources[i] with stage := .vacant, silent := false, silenceCount := 0 }) rfl hguard
    s.conferences (joinQueue s.queue everyRow false)
  rw [State.forceDrop_eq]
  exact (State.raise_within _ _ _).keeps hgone

/-- A list of sources that passes the checks of SET MINUS LIST names each of its sources once, and each of a kind it admits (R29). -/
theorem checkMinus_passes {bs : List Byte} (hc : checkEntries (checkMinus s) 0 [] bs = none) :
    (bs.filterMap (indexArg 32)).Nodup ∧ ∀ i ∈ bs.filterMap (indexArg 32), Joinable s.sources[i] := by
  rw [checkEntries_eq_none] at hc
  have hentry : ∀ (n : Nat) b, bs[n]? = some b → ∃ i : SourceId, indexArg 32 b = some i ∧ Joinable s.sources[i] ∧ b ∉ bs.take n := by
    intro n b hb
    have h := hc n b hb
    unfold checkMinus at h
    split at h
    · cases h
    · next i hi =>
      split at h
      · cases h
      · next hj =>
        split at h
        · cases h
        · next hd => exact ⟨i, hi, (Kind.mayJoin_iff _).mp (not_not.mp hj), by simpa using hd⟩
  have hnodup : bs.Nodup := by
    have h := nodup_of_no_repeat (key := id) (es := bs) fun n b hb hr => by
      obtain ⟨m, d, hm, hd, rfl⟩ := hr
      obtain ⟨_, _, _, hn⟩ := hentry n _ hb
      exact hn (List.mem_iff_getElem?.mpr ⟨m, by rw [List.getElem?_take, if_pos hm]; exact hd⟩)
    rwa [List.map_id] at h
  refine ⟨List.Nodup.filterMap (fun b d i hb hd => ?_) hnodup, fun i hi => ?_⟩
  · exact BitVec.eq_of_toNat_eq ((indexArg_eq_some.mp hb).trans (indexArg_eq_some.mp hd).symm)
  · obtain ⟨b, hb, hi⟩ := List.mem_filterMap.mp hi
    obtain ⟨n, hn⟩ := List.mem_iff_getElem?.mp hb
    obtain ⟨j, hj, hk, _⟩ := hentry n b hn
    rw [hi] at hj
    obtain rfl := Option.some.inj hj
    exact hk

theorem State.TablesLawful.ownerSetMinusList (h : s.TablesLawful) (ret : Byte) (bs : List Byte) :
    (ownerSetMinusList ret bs s).1.TablesLawful := by
  unfold Machine.ownerSetMinusList
  split
  · exact h
  · next r _ =>
    split
    · exact h
    · next hlen =>
      split
      · exact h
      · next hc =>
        obtain ⟨hd, hk⟩ := checkMinus_passes hc
        exact (State.markRows_within _ _).keeps
          (h.setMinus r rfl ((List.length_filterMap_le _ _).trans (Nat.le_of_not_lt hlen)) hd hk)

theorem State.TablesLawful.ownerClearReturn (h : s.TablesLawful) (ret : Byte) : (ownerClearReturn ret s).1.TablesLawful := by
  unfold Machine.ownerClearReturn
  split
  · exact h
  · next r _ => exact (State.markRows_within _ _).keeps (h.setMinus r rfl (Nat.zero_le _) List.nodup_nil fun _ hi => absurd hi List.not_mem_nil)

/-- An attachment made (R26, R27). -/
theorem State.TablesLawful.link (h : s.TablesLawful) {r : ReturnId} {a : Option SourceId}
    (hk : ∀ i, a = some i → Remote s.sources[i]) (ho : ∀ i, a = some i → ∀ q : ReturnId, q ≠ r → s.returns[q].attached ≠ some i) :
    (s.link r a).TablesLawful := by
  unfold State.link
  cases a with
  | none => exact (State.markRows_within _ _).keeps (h.attach r none (fun _ hi => by cases hi) (fun _ hi => by cases hi) fun _ hi => by cases hi)
  | some i =>
    dsimp only
    split
    · have hquiet : (s.setArbitration r { active := none, waiting := [] }).TablesLawful := (s.silence_within r).keeps h
      have hatt := hquiet.attach r (some i) hk ho fun _ _ _ => State.setArbitration_same s r _
      rw [State.listenerGone_frame, State.listenerGone_arbiter, State.markRows_eq]
      refine State.RefersWithin.keeps ?_ hatt
      exact .of_tables rfl rfl rfl rfl rfl
    · next hs =>
      exact (State.markRows_within _ _).keeps (h.attach r (some i) hk ho fun j hj hv => by
        obtain rfl := Option.some.inj hj
        exact absurd hv hs)

theorem State.attachedElsewhere_eq_false {r : ReturnId} {i : SourceId} :
    s.attachedElsewhere r i = false ↔ ∀ q : ReturnId, q ≠ r → s.returns[q].attached ≠ some i := by
  simp [State.attachedElsewhere]

theorem State.TablesLawful.ownerAttachReturn (h : s.TablesLawful) (ret source : Byte) :
    (ownerAttachReturn ret source s).1.TablesLawful := by
  unfold Machine.ownerAttachReturn
  split
  · next r a _ _ =>
    cases a with
    | none =>
      simp only [Bool.not_true, Bool.false_eq_true, if_false]
      split
      · exact h
      · exact h.link (a := none) (fun _ hi => by cases hi) fun _ hi => by cases hi
    | some i =>
      dsimp only
      split
      · exact h
      · next hadmit =>
        split
        · exact h
        · next hbusy =>
          split
          · exact h
          · refine h.link (a := some i) (fun j hj => ?_) fun j hj => ?_ <;> obtain rfl := Option.some.inj hj
            · exact (Kind.hasStage_iff _).mp (by simpa using hadmit)
            · exact State.attachedElsewhere_eq_false.mp (by simpa using hbusy)
  · exact h

theorem State.TablesLawful.ownerSetSourceKind (h : s.TablesLawful) (source kind : Byte) :
    (ownerSetSourceKind source kind s).1.TablesLawful := by
  unfold Machine.ownerSetSourceKind
  split
  · next i k _ _ =>
    split
    · next hf => exact h.setKind ((s.free_iff i).mp hf) rfl rfl
    · exact h
  · exact h

theorem State.TablesLawful.ownerSetAirFeed (h : s.TablesLawful) (source : Byte) : (ownerSetAirFeed source s).1.TablesLawful := by
  unfold Machine.ownerSetAirFeed
  split
  · exact h
  · exact (State.markRows_within _ _).keeps (h.setAirFeed none fun _ hi => by cases hi)
  · next i _ =>
    split
    · next hk => exact (State.markRows_within _ _).keeps (h.setAirFeed (some i) fun j hj => Option.some.inj hj ▸ hk)
    · exact h

end Owners

end Sys2Proof.Machine

namespace Sys2Proof.Machine

open Claims

section Owners

variable {s : State}

theorem State.originatorArg_kind {b : Byte} {i : SourceId} (h : s.originatorArg b = some i) : s.sources[i].kind = .talkback := by
  unfold State.originatorArg at h
  split at h
  · cases h
  · split at h
    · next hk => exact Option.some.inj h ▸ hk
    · cases h

/-- A request of a TALKBACK source that came over the port (R58, R84). -/
theorem State.RefersWithin.keeps_port {t : State} {q : Request} (h : s.RefersWithin (· = q) t)
    (hk : s.sources[q.originator].kind = .talkback) (ho : q.origin = .port) (hs : s.TablesLawful) : t.TablesLawful :=
  h.tablesLawful (fun _ hp => hp ▸ hk) (fun p n hp hn => by rw [hp, ho] at hn; cases hn) hs

theorem State.TablesLawful.ownerTalkDirect (h : s.TablesLawful) (o : Byte) (ret : BitVec 7) (m p hc : Byte) :
    (ownerTalkDirect o ret m p hc s).1.TablesLawful := by
  unfold Machine.ownerTalkDirect
  split
  · next i r mode pr hi _ _ _ =>
    dsimp only
    exact State.RefersWithin.keeps_port (q := directRequest i r mode pr (holdCodeArg hc) .port) (s.talkOn_within r rfl)
      (State.originatorArg_kind hi) rfl h
  · exact h

theorem State.TablesLawful.ownerTalkTag (h : s.TablesLawful) (o : Byte) (tag : BitVec 7) (m p hc : Byte) :
    (ownerTalkTag o tag m p hc s).1.TablesLawful := by
  unfold Machine.ownerTalkTag
  split
  · next i g mode pr hi _ _ _ =>
    dsimp only
    exact State.RefersWithin.keeps_port (q := groupRequest i g mode pr (holdCodeArg hc) .port) (s.talkGroup_within g rfl)
      (State.originatorArg_kind hi) rfl h
  · exact h

theorem ownerReleaseDirect_within {new : Request → Prop} (o : Byte) (ret : BitVec 7) :
    s.RefersWithin new (ownerReleaseDirect o ret s).1 := by
  unfold ownerReleaseDirect
  split
  · next i r _ _ =>
    have hr := s.releaseOn_within (new := new) r (byOriginator i)
    split <;> next hu => rw [hu] at hr; exact hr
  · exact .refl s

theorem ownerReleaseTag_within {new : Request → Prop} (o : Byte) (tag : BitVec 7) :
    s.RefersWithin new (ownerReleaseTag o tag s).1 := by
  unfold ownerReleaseTag
  split
  · next i g _ _ =>
    dsimp only
    exact s.releaseAll_within (byTag i g)
  · exact .refl s

theorem ownerSetTalkLevel_within {new : Request → Prop} (source : Byte) (l : Coeff) :
    s.RefersWithin new (ownerSetTalkLevel source l s).1 := by
  unfold ownerSetTalkLevel
  split
  · exact .refl s
  · refine (s.setSource_within _ ?_ ?_ ?_).trans (State.markRows_within _ _)
    · rfl
    · rfl
    · exact id

/-! ### Keys -/

/-- The requests of a key under its binding (R80). -/
def Binding.Asks (b : Binding) (n : KeyId) (q : Request) : Prop := q.originator = b.originator ∧ q.origin = .key n

theorem State.keyTalk_within (n : KeyId) (b : Binding) : s.RefersWithin (b.Asks n) (s.keyTalk n b).1 := by
  unfold State.keyTalk
  split
  · dsimp only
    exact s.talkOn_within _ ⟨rfl, rfl⟩
  · dsimp only
    exact s.talkGroup_within _ ⟨rfl, rfl⟩

theorem State.keyRelease_within {new : Request → Prop} (b : Binding) : s.RefersWithin new (s.keyRelease b).1 := by
  unfold State.keyRelease
  split
  · next r _ =>
    have hr := s.releaseOn_within (new := new) r (byOriginator b.originator)
    split <;> next hu => rw [hu] at hr; exact hr
  · dsimp only
    exact s.releaseAll_within _

theorem State.recordOutcome_within {new : Request → Prop} (d : State × KeyOutcome) (n : KeyId) :
    d.1.RefersWithin new (State.recordOutcome d n) := d.1.setKey_within n rfl

theorem State.pressKey_within (n : KeyId) (b : Binding) : s.RefersWithin (b.Asks n) (s.pressKey n b) := by
  have hset : s.RefersWithin (b.Asks n) (s.setKey n { s.keys[n] with pressCounted := true }) := s.setKey_within n rfl
  unfold State.pressKey
  dsimp only
  split
  · exact hset.trans ((State.keyTalk_within n b).trans (State.recordOutcome_within _ n))
  · split
    · exact hset.trans ((State.keyRelease_within b).trans (State.recordOutcome_within _ n))
    · exact hset.trans ((State.keyTalk_within n b).trans (State.recordOutcome_within _ n))

theorem State.releaseKey_within {new : Request → Prop} (n : KeyId) (b : Binding) : s.RefersWithin new (s.releaseKey n b) := by
  unfold State.releaseKey
  dsimp only
  refine State.RefersWithin.trans ?_ (State.setKey_within _ n rfl)
  split
  · exact (State.keyRelease_within b).trans (State.recordOutcome_within _ n)
  · exact .refl s
  · exact .refl s

/-- An acceptance takes up requests of the key's binding alone (R92 to R94). -/
theorem State.TablesLawful.acceptKey (h : s.TablesLawful) (n : KeyId) : (s.acceptKey n).TablesLawful := by
  unfold State.acceptKey
  dsimp only
  split
  · refine ((s.setKey_within n ?_).trans (State.setKey_within _ n ?_)).keeps h <;> rfl
  · next b hb =>
    have hset : s.RefersWithin (b.Asks n)
        ((s.setKey n { s.keys[n] with accepted := s.keys[n].line, debounce := .idle }).raise .keyEvent n.val) := by
      refine (s.setKey_within n ?_).trans (State.raise_within _ _ _)
      rfl
    have hact := State.RefersWithin.ite (c := s.keys[n].line = s.keys[n].pressLevel) (hset.trans (State.pressKey_within n b))
      (hset.trans (State.releaseKey_within n b))
    refine hact.tablesLawful (fun q hq => ?_) (fun q m hq hm => ⟨b, ?_, hq.1.symm⟩) h
    · exact (congrArg (fun i : SourceId => s.sources[i].kind) hq.1).trans (h.bindingKind n b hb)
    · rw [hq.2, Origin.key.injEq] at hm
      exact hm ▸ hb

theorem State.unbind_fst (s : State) (n : KeyId) : (s.unbind n).1 =
    (s.releaseAll (byKey n)).1.setKey n { (s.releaseAll (byKey n)).1.keys[n] with binding := none, pressCounted := false } := by
  rw [State.unbind]

/-- No request of a key's origin is left when it has been unbound (R97). -/
theorem State.unbind_clears (n : KeyId) (r : ReturnId) : ∀ q ∈ (s.unbind n).1.arbiter[r].requests, q.origin ≠ .key n := by
  rw [State.unbind_fst, State.setKey_arbiter]
  exact fun q hq => of_decide_eq_false (s.releaseAll_clears (byKey n) r q hq)

theorem State.unbind_kind (n : KeyId) (i : SourceId) : (s.unbind n).1.sources[i].kind = s.sources[i].kind := by
  rw [State.unbind_fst, State.setKey_sources]
  exact (s.releaseAll_within (new := fun _ => False) (byKey n)).kind i

theorem State.TablesLawful.unbind (h : s.TablesLawful) (n : KeyId) : (s.unbind n).1.TablesLawful := by
  have hclear := s.releaseAll_clears (byKey n)
  rw [State.unbind_fst]
  exact ((s.releaseAll_within (byKey n)).keeps h).bind n (fun _ hb => by cases hb) fun r q hq => of_decide_eq_false (hclear r q hq)

theorem State.TablesLawful.ownerUnbindKey (h : s.TablesLawful) (key : Byte) : (ownerUnbindKey key s).1.TablesLawful := by
  unfold Machine.ownerUnbindKey
  split
  · exact h
  · next n _ =>
    split
    · exact h
    · exact h.unbind n

theorem State.bindArgs_kind {o target m p hc l km : Byte} {b : Binding} {level : Level} {keyMode : KeyMode}
    (h : s.bindArgs o target m p hc l km = some (b, level, keyMode)) : s.sources[b.originator].kind = .talkback := by
  unfold State.bindArgs at h
  split at h
  · next i _ _ _ _ _ hi _ _ _ _ _ =>
    obtain ⟨rfl, _⟩ := Prod.mk.inj (Option.some.inj h)
    exact State.originatorArg_kind hi
  · cases h

theorem State.TablesLawful.ownerBindKey (h : s.TablesLawful) (key o target m p hc l km : Byte) :
    (ownerBindKey key o target m p hc l km s).1.TablesLawful := by
  unfold Machine.ownerBindKey
  split
  · next n b level keyMode _ hargs =>
    have hkind := State.bindArgs_kind hargs
    dsimp only
    cases hprior : s.keys[n].binding.isSome
    · have hfree : ∀ (r : ReturnId), ∀ q ∈ s.arbiter[r].requests, q.origin ≠ .key n := fun r q hq ho => by
        obtain ⟨b', hb', _⟩ := h.requestOwned hq ho
        rw [hb'] at hprior
        cases hprior
      exact h.bind n (fun b' hb' => Option.some.inj hb' ▸ hkind) hfree
    · refine (h.unbind n).bind n (fun b' hb' => ?_) (State.unbind_clears n)
      obtain rfl := Option.some.inj hb'
      exact (State.unbind_kind n _).trans hkind
  · exact h

/-! ### Device reset -/

theorem State.withKeys_within {new : Request → Prop} (s : State) (v : Vector Key 8) (h : ∀ n : KeyId, v[n].binding = s.keys[n].binding) :
    s.RefersWithin new { s with keys := v } where
  kind _ := rfl
  stage _ := rfl
  guard _ := id
  attached _ := rfl
  minusList _ := rfl
  requests _ _ := .inl
  binding := h
  airFeed := rfl

theorem State.enterReset_tablesLawful (s : State) : s.enterReset.TablesLawful := by
  have hkeys : ({ State.reset with keys := Vector.ofFn fun n => s.keys[n].inReset } : State).TablesLawful :=
    (State.withKeys_within _ _ fun n => by simp [Key.inReset, State.reset]).keeps State.reset_tablesLawful
  refine State.RefersWithin.keeps ?_ hkeys
  exact .of_tables rfl rfl rfl rfl rfl

theorem State.leaveReset_within {new : Request → Prop} (s : State) : s.RefersWithin new s.leaveReset := by
  refine (s.withKeys_within (Vector.ofFn fun n => s.keys[n].wake s.debounceTime) fun n => by simp [Key.wake]).trans ?_
  exact .of_tables rfl rfl rfl rfl rfl

end Owners

end Sys2Proof.Machine

namespace Sys2Proof.Machine

open Claims

/-! ### Every command keeps the cross-references of the tables -/

/-- A command whose owner refers within the tables it finds. -/
theorem State.perform_within {c : Instr} {owner : State → State × Answer}
    {s t : State} (hs : s.TablesLawful) (ht : exec c s = .next t) (he : exec c s = s.perform c owner)
    (h : ∀ s : State, s.RefersWithin (fun _ => False) (owner s).1) : t.TablesLawful :=
  State.perform_keeps (fun s p q hs => (s.setPort_within p q).keeps hs) (fun s hs => (h s).keeps hs) hs (he ▸ ht)

/-- A command whose owner keeps the law of the tables. -/
theorem State.perform_lawful {c : Instr} {owner : State → State × Answer}
    {s t : State} (hs : s.TablesLawful) (ht : exec c s = .next t) (he : exec c s = s.perform c owner)
    (h : ∀ s : State, s.TablesLawful → (owner s).1.TablesLawful) : t.TablesLawful :=
  State.perform_keeps (fun s p q hs => (s.setPort_within p q).keeps hs) h hs (he ▸ ht)

theorem State.whenever_within {s event t : State} {condition : Bool} (h : s.RefersWithin (fun _ => False) event)
    (hs : s.TablesLawful) (he : s.whenever condition event = .next t) : t.TablesLawful :=
  State.whenever_keeps hs (fun _ => h.keeps hs) he

theorem State.transact_within {new : Request → Prop} (s : State) (p : Port) (bits : List Bool) :
    s.RefersWithin new (s.transact p bits) := by
  unfold State.transact
  split
  · exact .refl s
  · split
    · obtain ⟨slot, overrun, ha⟩ := s.arrive_frame p _ bits.length
      rw [ha]
      exact s.setPort_within p _
    · exact s.setPort_within p _
    · exact .refl s

theorem ownerJoin_within {new : Request → Prop} (source conference : Byte) (s : State) :
    s.RefersWithin new (ownerJoin source conference s).1 := by
  unfold ownerJoin
  split
  · next i k _ _ =>
    dsimp only
    split
    · exact .refl s
    · split
      · exact .refl s
      · split
        · exact .refl s
        · split
          · exact .refl s
          · exact (s.enterConference_within i k).trans (State.markRows_within _ _)
  · exact .refl s

theorem ownerLeave_within {new : Request → Prop} (source : Byte) (s : State) : s.RefersWithin new (ownerLeave source s).1 := by
  unfold ownerLeave
  split
  · exact .refl s
  · next i _ =>
    split
    · exact .refl s
    · next k _ =>
      exact (s.unlist_within k i).trans ((State.setMembership_within _ i none).trans (State.markRows_within _ _))

theorem ownerSetConference_within {new : Request → Prop} (conference : Byte) (g b : Coeff) (s : State) :
    s.RefersWithin new (ownerSetConference conference g b s).1 := by
  unfold ownerSetConference
  split
  · exact .refl s
  · exact (s.setConference_within _ _).trans (State.markRows_within _ _)

theorem ownerSetFaders_within {new : Request → Prop} (es : List (Byte × Coeff)) (s : State) :
    s.RefersWithin new (ownerSetFaders es s).1 := by
  unfold ownerSetFaders
  split
  · exact .refl s
  · exact (s.foldl_within (fun t e => t.writeFader_within e) es).trans (State.markUnlessEmpty_within _ _ _)

theorem ownerSetSourceOn_within {new : Request → Prop} (es : List (Byte × Byte)) (s : State) :
    s.RefersWithin new (ownerSetSourceOn es s).1 := by
  unfold ownerSetSourceOn
  split
  · exact .refl s
  · exact (s.foldl_within (fun t e => t.writeOn_within e) es).trans (State.markUnlessEmpty_within _ _ _)

theorem ownerSetReturn_within {new : Request → Prop} (es : List ReturnEntry) (s : State) :
    s.RefersWithin new (ownerSetReturn es s).1 := by
  unfold ownerSetReturn
  split
  · exact .refl s
  · exact (s.foldl_within (fun t e => t.writeReturn_within e) es).trans (State.markRows_within _ _)

theorem ownerSelectMonitor_within {new : Request → Prop} (ret : Byte) (s : State) :
    s.RefersWithin new (ownerSelectMonitor ret s).1 := by
  unfold ownerSelectMonitor
  split
  · exact .refl s
  · exact .of_tables rfl rfl rfl rfl rfl

theorem ownerSetDipLevel_within {new : Request → Prop} (ret : Byte) (l : Coeff) (s : State) :
    s.RefersWithin new (ownerSetDipLevel ret l s).1 := by
  unfold ownerSetDipLevel
  split
  · exact .refl s
  · refine (s.setReturn_within _ ?_ ?_).trans (State.markRows_within _ _) <;> rfl

theorem ownerSetTags_within {new : Request → Prop} (ret b0 b1 b2 d : Byte) (s : State) :
    s.RefersWithin new (ownerSetTags ret b0 b1 b2 d s).1 := by
  unfold ownerSetTags
  split
  · dsimp only
    split
    · exact .refl s
    · exact s.setReturn_within _ rfl rfl
  · exact .refl s

theorem State.withReturns_within {new : Request → Prop} (s : State) (v : Vector Return 24)
    (ha : ∀ r : ReturnId, v[r].attached = s.returns[r].attached) (hm : ∀ r : ReturnId, v[r].minusList = s.returns[r].minusList) :
    s.RefersWithin new { s with returns := v } where
  kind _ := rfl
  stage _ := rfl
  guard _ := id
  attached := ha
  minusList := hm
  requests _ _ := .inl
  binding _ := rfl
  airFeed := rfl

theorem ownerClearRefusals_within {new : Request → Prop} (ret : Byte) (s : State) :
    s.RefersWithin new (ownerClearRefusals ret s).1 := by
  unfold ownerClearRefusals
  split
  · exact .refl s
  · exact s.setReturn_within _ rfl rfl
  · exact s.withReturns_within _ (fun r => by simp) (fun r => by simp)

theorem ownerAcknowledge_within {new : Request → Prop} (p : Port) (kinds : Byte) (s : State) :
    s.RefersWithin new (ownerAcknowledge p kinds s).1 := by
  unfold ownerAcknowledge
  split
  · exact s.setPort_within p _
  · exact .refl s

theorem ownerSetNoticeMask_within {new : Request → Prop} (p : Port) (kinds : Byte) (s : State) :
    s.RefersWithin new (ownerSetNoticeMask p kinds s).1 := by
  unfold ownerSetNoticeMask
  split
  · exact s.setPort_within p _
  · exact .refl s

/-- The stage commands keep the law at every stage their source stands in (R9 to R16). -/
theorem State.TablesLawful.ownerAttach {s : State} (h : s.TablesLawful) (b : Byte) : (ownerAttach b s).1.TablesLawful := by
  refine State.withRemote_keeps b h fun i hr => ?_
  split
  · exact h.moveStage hr (.inl rfl)
  all_goals exact h

theorem State.TablesLawful.ownerScreen {s : State} (h : s.TablesLawful) (b : Byte) : (ownerScreen b s).1.TablesLawful := by
  refine State.withRemote_keeps b h fun i hr => ?_
  split
  · exact h
  · exact h.moveStage hr (.inl rfl)
  · exact h.moveStage hr (.inl rfl)
  all_goals exact h

theorem State.TablesLawful.ownerPark {s : State} (h : s.TablesLawful) (b : Byte) : (ownerPark b s).1.TablesLawful := by
  refine State.withRemote_keeps b h fun i hr => ?_
  split
  · exact h
  · exact h.moveStage hr (.inr (.inl rfl))
  · exact h.moveStage hr (.inr (.inl rfl))
  all_goals exact h

theorem State.TablesLawful.ownerMarkReady {s : State} (h : s.TablesLawful) (b : Byte) : (ownerMarkReady b s).1.TablesLawful := by
  have hready : ∀ i, Remote s.sources[i] → ((s.moveStage i .ready).raise .readyMarked i.val).TablesLawful := fun i hr =>
    (State.raise_within _ _ _).keeps (h.moveStage hr (.inr (.inr rfl)))
  refine State.withRemote_keeps b h fun i hr => ?_
  split
  · exact h
  · exact hready i hr
  · exact hready i hr
  all_goals exact h

theorem State.TablesLawful.ownerTake {s : State} (h : s.TablesLawful) (b : Byte) : (ownerTake b s).1.TablesLawful := by
  refine State.withRemote_keeps b h fun i hr => ?_
  split
  · exact h.putOnAir hr
  all_goals exact h

theorem State.TablesLawful.ownerDrop {s : State} (h : s.TablesLawful) (b : Byte) : (ownerDrop b s).1.TablesLawful := by
  refine State.withRemote_keeps b h fun i hr => ?_
  split
  · exact h.dropToHold hr
  all_goals exact h

theorem State.TablesLawful.ownerDetach {s : State} (h : s.TablesLawful) (b : Byte) : (ownerDetach b s).1.TablesLawful := by
  refine State.withRemote_keeps b h fun i hr => ?_
  split
  · exact h
  · exact h.endCall hr
  · exact h.endCall hr
  · exact h.endCall hr
  · next hs => exact h.forceDrop hr hs

theorem State.expireGuard_within {new : Request → Prop} (s : State) (i : SourceId) : s.RefersWithin new (s.expireGuard i) := by
  unfold State.expireGuard
  refine (s.setSource_within i ?_ ?_ fun hg => absurd ?_ hg).trans (State.markRows_within _ _) <;> rfl

theorem State.takeRow_within {new : Request → Prop} (s : State) : s.RefersWithin new s.takeRow := by
  unfold State.takeRow
  split
  · exact .of_tables rfl rfl rfl rfl rfl
  · exact .refl s

theorem State.completeRow_within {new : Request → Prop} (s : State) : s.RefersWithin new s.completeRow := by
  unfold State.completeRow
  split
  · exact .refl s
  · unfold State.complete State.setRow
    exact .of_tables rfl rfl rfl rfl rfl

theorem State.startFrame_within {new : Request → Prop} (s : State) : s.RefersWithin new s.startFrame := by
  unfold State.startFrame
  exact .of_tables rfl rfl rfl rfl rfl

theorem State.loseSync_within {new : Request → Prop} (s : State) : s.RefersWithin new s.loseSync := by
  unfold State.loseSync State.silenceOutputs State.raiseSyncChange
  exact .of_tables rfl rfl rfl rfl rfl

theorem execKeyLineChange_within {s t : State} {n : KeyId} {level : Level} (h : execKeyLineChange n level s = .next t) :
    s.RefersWithin (fun _ => False) t := by
  unfold execKeyLineChange at h
  split at h
  · exact Host.Outcome.next.inj h ▸ .refl s
  · split at h <;> exact Host.Outcome.next.inj h ▸ s.setKey_within n rfl

/-- Every command keeps the cross-references of the tables, by the command's own lemma. -/
theorem exec_keeps_tablesLawful (c : Instr) {s t : State} (hs : s.TablesLawful) (h : exec c s = .next t) : t.TablesLawful := by
  cases c with
  | commandTransaction p frame => exact State.whenever_within (s.transact_within _ _) hs h
  | fetch p dataIn => exact State.whenever_within (s.transact_within _ _) hs h
  | invalidTransaction p x => exact State.whenever_within (s.transact_within _ _) hs h
  | readSource p b => exact State.perform_within hs h rfl (fun s => .refl s)
  | readReturn p b => exact State.perform_within hs h rfl (fun s => .refl s)
  | readConference p b => exact State.perform_within hs h rfl (fun s => .refl s)
  | readStatus p => exact State.perform_within hs h rfl (fun s => .refl s)
  | readKey p b => exact State.perform_within hs h rfl (fun s => .refl s)
  | readCell p row b => exact State.perform_within hs h rfl (fun s => .refl s)
  | readWatch p => exact State.perform_within hs h rfl (fun s => .refl s)
  | acknowledge p kinds => exact State.perform_within hs h rfl (ownerAcknowledge_within p kinds)
  | setNoticeMask p kinds => exact State.perform_within hs h rfl (ownerSetNoticeMask_within p kinds)
  | setSourceKind b k => exact State.perform_lawful hs h rfl (fun s hs => hs.ownerSetSourceKind b k)
  | setFaders es => exact State.perform_within hs h rfl (ownerSetFaders_within es)
  | setSourceOn es => exact State.perform_within hs h rfl (ownerSetSourceOn_within es)
  | take b => exact State.perform_lawful hs h rfl (fun s hs => hs.ownerTake b)
  | drop b => exact State.perform_lawful hs h rfl (fun s hs => hs.ownerDrop b)
  | setReturn es => exact State.perform_within hs h rfl (ownerSetReturn_within es)
  | setMinusList r bs => exact State.perform_lawful hs h rfl (fun s hs => hs.ownerSetMinusList r bs)
  | clearReturn r => exact State.perform_lawful hs h rfl (fun s hs => hs.ownerClearReturn r)
  | setAirFeed b => exact State.perform_lawful hs h rfl (fun s hs => hs.ownerSetAirFeed b)
  | setAirDelay d => exact State.perform_within hs h rfl (fun s => .of_tables rfl rfl rfl rfl rfl)
  | setRampSteps p k => exact State.perform_within hs h rfl (fun s => .of_tables rfl rfl rfl rfl rfl)
  | setWatch w c th st => exact State.perform_within hs h rfl (fun s => .of_tables rfl rfl rfl rfl rfl)
  | selectMonitor r => exact State.perform_within hs h rfl (ownerSelectMonitor_within r)
  | attach b => exact State.perform_lawful hs h rfl (fun s hs => hs.ownerAttach b)
  | detach b => exact State.perform_lawful hs h rfl (fun s hs => hs.ownerDetach b)
  | screen b => exact State.perform_lawful hs h rfl (fun s hs => hs.ownerScreen b)
  | park b => exact State.perform_lawful hs h rfl (fun s hs => hs.ownerPark b)
  | markReady b => exact State.perform_lawful hs h rfl (fun s hs => hs.ownerMarkReady b)
  | attachReturn r b => exact State.perform_lawful hs h rfl (fun s hs => hs.ownerAttachReturn r b)
  | join b k => exact State.perform_within hs h rfl (ownerJoin_within b k)
  | leave b => exact State.perform_within hs h rfl (ownerLeave_within b)
  | setConference k g b => exact State.perform_within hs h rfl (ownerSetConference_within k g b)
  | talkDirect o r m p hc => exact State.perform_lawful hs h rfl (fun s hs => hs.ownerTalkDirect o r m p hc)
  | talkTag o g m p hc => exact State.perform_lawful hs h rfl (fun s hs => hs.ownerTalkTag o g m p hc)
  | releaseDirect o r => exact State.perform_within hs h rfl (fun s => ownerReleaseDirect_within o r)
  | releaseTag o g => exact State.perform_within hs h rfl (fun s => ownerReleaseTag_within o g)
  | setTalkLevel b l => exact State.perform_within hs h rfl (fun s => ownerSetTalkLevel_within b l)
  | setDipLevel r l => exact State.perform_within hs h rfl (ownerSetDipLevel_within r l)
  | setTags r a b c d => exact State.perform_within hs h rfl (ownerSetTags_within r a b c d)
  | bindKey n o g m p hc l km => exact State.perform_lawful hs h rfl (fun s hs => hs.ownerBindKey n o g m p hc l km)
  | unbindKey n => exact State.perform_lawful hs h rfl (fun s hs => hs.ownerUnbindKey n)
  | clearRefusals r => exact State.perform_within hs h rfl (ownerClearRefusals_within r)
  | setDebounce b => exact State.perform_within hs h rfl (fun s => .of_tables rfl rfl rfl rfl rfl)
  | frameArrival slots => exact State.whenever_within (s.takeFrame_within slots) hs h
  | silenceLimitReached i slots => exact State.whenever_within (s.takeFrame_within slots) hs h
  | watchIntervalExpiry slots => exact State.whenever_within (s.takeFrame_within slots) hs h
  | airExitGuardExpiry i => exact State.whenever_within (s.expireGuard_within i) hs h
  | holdExpiry r => exact State.whenever_within (s.expireHold_within r) hs h
  | shortFrame => exact State.whenever_within s.startFrame_within hs h
  | syncLoss => exact State.whenever_within s.loseSync_within hs h
  | keyLineChange n level => exact (execKeyLineChange_within h).keeps hs
  | keyAcceptance n => exact State.whenever_keeps hs (fun _ => hs.acceptKey n) h
  | recomposeTake => exact State.whenever_within s.takeRow_within hs h
  | recomposeCompletion => exact State.whenever_within s.completeRow_within hs h
  | deviceReset => exact Host.Outcome.next.inj h ▸ s.enterReset_tablesLawful
  | deviceResetEnd =>
    change (if s.inReset then .next s.leaveReset else .next s) = Host.Outcome.next t at h
    split at h <;> obtain rfl := Host.Outcome.next.inj h
    · exact s.leaveReset_within.keeps hs
    · exact hs
  | frameSyncRisingEdge => exact State.whenever_within s.startFrame_within hs h

end Sys2Proof.Machine

namespace Sys2Proof.Proofs

open Machine

/-- Settles O57: a step is a bit period, which touches the frame assembly alone, or a command, by `exec_keeps_tablesLawful`. -/
theorem everyStepKeepsTheTableLaw : Obligations.EveryStepKeepsTheTableLaw := by
  intro s t hs h
  unfold step at h
  split at h
  · obtain rfl := Host.Outcome.next.inj h
    rw [State.bitPeriod_frame]
    exact { hs with }
  · next c rest _ => exact exec_keeps_tablesLawful c (s := { s with pending := rest }) { hs with } h

end Sys2Proof.Proofs

namespace Sys2Proof.Machine

open Claims

/-! ## The composition of a target

What each step of chapter 6 gives, in the terms of the claims. -/

@[simp] theorem State.inMinusSet_iff {s : State} {r : ReturnId} {j : SourceId} : s.inMinusSet r j = true ↔ Minus s r j := by
  simp [State.inMinusSet, Minus]

theorem State.silentListener_iff {s : State} {r : ReturnId} : s.silentListener r = true ↔ AtStage s r .vacant := by
  unfold State.silentListener AtStage
  cases s.returns[r].attached <;> simp

theorem State.demotes_iff {s : State} {r : ReturnId} : s.demotes r = true ↔ Demoted s r := by
  simp [State.demotes, Demoted, ← Option.isSome_iff_ne_none]

/-- Out of VACANT, what a return wants is its base feed before demotion (R37). -/
theorem wants_iff {s : State} {r : ReturnId} (hv : ¬ AtStage s r .vacant) (f : Feed) : Wants s r f ↔ s.baseBeforeDemotion r = f := by
  unfold Wants State.baseBeforeDemotion AtStage
  unfold AtStage at hv
  cases ha : s.returns[r].attached with
  | none => cases f <;> simp
  | some a => cases hg : s.sources[a].stage <;> cases f <;> simp_all

theorem capCoeff_toNat (n : Nat) : (capCoeff n).toNat = min 65535 n := by
  simp only [capCoeff, Config.maxCoeff, BitVec.toNat_ofNat]
  omega

theorem compose_toNat (x y : Coeff) : (compose x y).toNat = min 65535 ((x.toNat * y.toNat + 8192) / 16384) := capCoeff_toNat _

theorem Source.contribution_toNat (x : Source) : x.contribution.toNat =
    if (Remote x ∧ x.stage = .air) ∨ ((x.kind = .studio ∨ x.kind = .playout) ∧ x.on = true) then x.fader.toNat else 0 := by
  unfold Source.contribution Remote
  simp only [Kind.hasStage_iff, Kind.hasOn_iff, apply_ite BitVec.toNat]
  rfl

/-- The base coefficient, by the feed the return wants and its demotion (R37, R38, R104). -/
theorem State.baseCoeff_toNat {s : State} {r : ReturnId} {i : SourceId} {base : Nat} (hv : ¬ AtStage s r .vacant)
    (hprogram : Wants s r .program ∨ (Wants s r .air ∧ Demoted s r) →
      base = if Minus s r i then 0 else s.sources[i].contribution.toNat)
    (hair : Wants s r .air ∧ ¬ Demoted s r → base = if s.airFeed = some i then 16384 else 0)
    (hsilent : Wants s r .silent → base = 0) : (s.baseCoeff r i).toNat = base := by
  simp only [wants_iff hv] at hprogram hair hsilent
  unfold State.baseCoeff State.baseFeed
  cases hf : s.baseBeforeDemotion r with
  | program => simp only [hprogram (.inl hf), State.inMinusSet_iff, apply_ite BitVec.toNat]; rfl
  | silent => rw [hsilent hf]; rfl
  | air =>
    by_cases hd : Demoted s r
    · simp only [if_pos (State.demotes_iff.mpr hd), hprogram (.inr ⟨hf, hd⟩), State.inMinusSet_iff, apply_ite BitVec.toNat]; rfl
    · simp only [if_neg (mt State.demotes_iff.mp hd), hair ⟨hf, hd⟩, apply_ite BitVec.toNat]; rfl

theorem State.conferenceCoeff_of_alone {s : State} {r : ReturnId} {i : SourceId} (hl : s.ConferencesLawful)
    (h : ∀ (a : SourceId) (k : ConferenceId), s.returns[r].attached = some a → a ∉ s.conferences[k].members) :
    s.conferenceCoeff r i = s.baseCoeff r i := by
  unfold State.conferenceCoeff
  split
  · rfl
  · next a ha =>
    split
    · rfl
    · next k hk => exact absurd ((hl.agree a k).mp hk) (h a k ha)

/-- The conference coefficient of a return whose source is a member (R105). -/
theorem State.conferenceCoeff_of_member {s : State} {r : ReturnId} {i a : SourceId} {k : ConferenceId} (hl : s.ConferencesLawful)
    (ha : s.returns[r].attached = some a) (hm : a ∈ s.conferences[k].members) :
    (s.conferenceCoeff r i).toNat = min 65535 ((compose (s.baseCoeff r i) s.conferences[k].bed).toNat +
      if i ∈ s.conferences[k].members ∧ i ≠ a ∧ ¬ Minus s r i then s.conferences[k].gain.toNat else 0) := by
  have hk : s.sources[a].conference = some k := (hl.agree a k).mpr hm
  simp only [State.conferenceCoeff, ha, hk, State.inMinusSet_iff, List.contains_iff_mem]
  split <;> simp only [capCoeff_toNat, Nat.add_zero]

/-- Without an active request a return that is heard carries its level coefficients (R107). -/
theorem State.returnTarget_of_idle {s : State} {r : ReturnId} {i : SourceId} (hv : ¬ AtStage s r .vacant)
    (hn : s.arbiter[r].active = none) : s.returnTarget r i = s.levelCoeff r i := by
  simp only [State.returnTarget, if_neg (mt State.silentListener_iff.mp hv), hn]

/-- Under an active request a return carries its originator at the talk level, and the rest as the mode says (R107). -/
theorem State.returnTarget_of_interrupt {s : State} {r : ReturnId} {i : SourceId} {x : Active} (hv : ¬ AtStage s r .vacant)
    (hx : s.arbiter[r].active = some x) : s.returnTarget r i =
      if i = x.request.originator then s.sources[i].talkLevel
      else if x.request.mode = .cut then 0 else compose (s.levelCoeff r i) s.returns[r].dipLevel := by
  simp only [State.returnTarget, if_neg (mt State.silentListener_iff.mp hv), hx]
  cases x.request.mode <;> rfl

end Sys2Proof.Machine

namespace Sys2Proof.Proofs

open Machine Claims

/-- Settles O53: in lawful states the hypotheses on base and level fix them to the coefficients that steps 2 to 5 compose. -/
theorem targetsFollowTheSixSteps : Obligations.TargetsFollowTheSixSteps := by
  intro s hl r i
  refine ⟨Source.contribution_toNat _, fun hv => ?_, fun hv base level hprogram hair hsilent halone hmember => ?_⟩
  · show (s.returnTarget r i).toNat = 0
    rw [State.returnTarget, if_pos (State.silentListener_iff.mpr hv)]
    rfl
  · have hbase : (s.baseCoeff r i).toNat = base :=
      State.baseCoeff_toNat hv (fun h => by rw [Source.contribution_toNat]; exact hprogram h) hair hsilent
    have hlevel : (s.levelCoeff r i).toNat = level := by
      rw [State.levelCoeff, compose_toNat]
      by_cases hm : ∃ (a : SourceId) (k : ConferenceId), s.returns[r].attached = some a ∧ a ∈ s.conferences[k].members
      · obtain ⟨a, k, ha, hk⟩ := hm
        rw [State.conferenceCoeff_of_member hl.conferences ha hk, compose_toNat, hbase, hmember a k ha hk]
      · push Not at hm
        rw [State.conferenceCoeff_of_alone hl.conferences hm, hbase, halone hm]
    have hrow : s.targetOf (.ret r) i = s.returnTarget r i := rfl
    rw [hrow]
    refine ⟨fun hn => by rw [State.returnTarget_of_idle hv hn, hlevel], fun x hx => ?_⟩
    rw [State.returnTarget_of_interrupt hv hx]
    refine ⟨fun hi => ?_, fun hi hcut => ?_, fun hi hdip => ?_⟩
    · rw [if_pos hi]
    · rw [if_neg hi, if_pos hcut]; rfl
    · rw [if_neg hi, if_neg (by rw [hdip]; decide), compose_toNat, hlevel]

end Sys2Proof.Proofs

namespace Sys2Proof.Machine

/-! ## The encodings of reports

What two equal encodings say of the values they come from (R169), each as a rewriting rule for the field at the front of a report. -/

theorem byteOf_inj {m n : Nat} : byteOf m = byteOf n ↔ m % 256 = n % 256 := by
  simp [byteOf, ← BitVec.toNat_inj]

theorem byteOf_inj_of_lt {m n : Nat} (hm : m < 256) (hn : n < 256) : byteOf m = byteOf n ↔ m = n := by
  rw [byteOf_inj, Nat.mod_eq_of_lt hm, Nat.mod_eq_of_lt hn]

theorem byteOf_fin_inj {n : Nat} (hn : n ≤ 256) {i j : Fin n} : byteOf i.val = byteOf j.val ↔ i = j := by
  rw [byteOf_inj_of_lt (by omega) (by omega), Fin.val_inj]

@[simp] theorem be16_inj {x y : BitVec 16} : be16 x = be16 y ↔ x = y := by
  refine ⟨fun h => ?_, congrArg be16⟩
  simp only [be16, List.cons.injEq, and_true, ← BitVec.toNat_inj, BitVec.extractLsb'_toNat, Nat.shiftRight_eq_div_pow] at h
  bv_omega

theorem be24_inj {x y : BitVec 24} : be24 x = be24 y ↔ x = y := by
  refine ⟨fun h => ?_, congrArg be24⟩
  simp only [be24, List.cons.injEq, and_true, ← BitVec.toNat_inj, BitVec.extractLsb'_toNat, Nat.shiftRight_eq_div_pow] at h
  bv_omega

@[simp] theorem count16_inj {m n : Nat} : count16 m = count16 n ↔ m % 65536 = n % 65536 := by
  rw [count16, count16, be16_inj, ← BitVec.toNat_inj, BitVec.toNat_ofNat, BitVec.toNat_ofNat]

@[simp] theorem count24_inj {m n : Nat} : count24 m = count24 n ↔ m % 16777216 = n % 16777216 := by
  rw [count24, count24, be24_inj, ← BitVec.toNat_inj, BitVec.toNat_ofNat, BitVec.toNat_ofNat]

@[simp] theorem be16_length (x : BitVec 16) : (be16 x).length = 2 := rfl
@[simp] theorem count16_length (n : Nat) : (count16 n).length = 2 := rfl
@[simp] theorem count24_length (n : Nat) : (count24 n).length = 3 := rfl

@[simp] theorem be16_append_inj {x y : BitVec 16} {l m : List Byte} : be16 x ++ l = be16 y ++ m ↔ x = y ∧ l = m := by
  rw [List.append_eq_append_iff_of_size_eq_left (by simp), be16_inj]

@[simp] theorem count16_append_inj {x y : Nat} {l m : List Byte} :
    count16 x ++ l = count16 y ++ m ↔ x % 65536 = y % 65536 ∧ l = m := by
  rw [List.append_eq_append_iff_of_size_eq_left (by simp), count16_inj]

@[simp] theorem count24_append_inj {x y : Nat} {l m : List Byte} :
    count24 x ++ l = count24 y ++ m ↔ x % 16777216 = y % 16777216 ∧ l = m := by
  rw [List.append_eq_append_iff_of_size_eq_left (by simp), count24_inj]

/-! ### Enumerated values and indices -/

@[simp] theorem flagByte_inj {a b : Bool} : flagByte a = flagByte b ↔ a = b := by cases a <;> cases b <;> decide
@[simp] theorem Kind.byte_inj {a b : Kind} : a.byte = b.byte ↔ a = b := by cases a <;> cases b <;> decide
@[simp] theorem Stage.byte_inj {a b : Stage} : a.byte = b.byte ↔ a = b := by cases a <;> cases b <;> decide
@[simp] theorem Feed.byte_inj {a b : Feed} : a.byte = b.byte ↔ a = b := by cases a <;> cases b <;> decide
@[simp] theorem Mode.byte_inj {a b : Mode} : a.byte = b.byte ↔ a = b := by cases a <;> cases b <;> decide
@[simp] theorem DeafMode.byte_inj {a b : DeafMode} : a.byte = b.byte ↔ a = b := by cases a <;> cases b <;> decide
@[simp] theorem levelByte_inj {a b : Level} : levelByte a = levelByte b ↔ a = b := by cases a <;> cases b <;> decide
@[simp] theorem KeyMode.byte_inj {a b : KeyMode} : a.byte = b.byte ↔ a = b := by cases a <;> cases b <;> decide
@[simp] theorem SyncState.byte_inj {a b : SyncState} : a.byte = b.byte ↔ a = b := by cases a <;> cases b <;> decide

/-- A small number apart from a fixed code. -/
theorem byteOf_ne {n k : Nat} (hn : n < k) (hk : k < 256) : byteOf n ≠ byteOf k :=
  fun h => absurd ((byteOf_inj_of_lt (by omega) hk).mp h) (by omega)

theorem indexByte_inj {n : Nat} (hn : n ≤ 255) {a b : Option (Fin n)} : indexByte a = indexByte b ↔ a = b := by
  have hne (i : Fin n) : indexByte (some i) ≠ indexByte (none : Option (Fin n)) := byteOf_ne (k := 255) (by omega) (by decide)
  cases a with
  | none =>
    cases b with
    | none => simp
    | some j => simpa using (hne j).symm
  | some i =>
    cases b with
    | none => simpa using hne i
    | some j => rw [Option.some_inj]; exact byteOf_fin_inj (by omega)

@[simp] theorem tagByte_inj {t u : TagId} : tagByte t = tagByte u ↔ t = u := by
  rw [tagByte, tagByte, byteOf_inj_of_lt (by omega) (by omega), Nat.add_right_cancel_iff, Fin.val_inj]

theorem zero_ne_tagByte (t : TagId) : (0 : Byte) ≠ tagByte t := byteOf_ne (n := 0) (Nat.succ_pos _) (by omega)

@[simp] theorem tagPositionByte_inj {a b : Option TagId} : tagPositionByte a = tagPositionByte b ↔ a = b := by
  cases a with
  | none =>
    cases b with
    | none => simp
    | some u => simpa [tagPositionByte] using zero_ne_tagByte u
  | some t =>
    cases b with
    | none => simpa [tagPositionByte] using (zero_ne_tagByte t).symm
    | some u => rw [Option.some_inj]; exact tagByte_inj

@[simp] theorem Via.byte_inj {a b : Via} : a.byte = b.byte ↔ a = b := by
  cases a with
  | direct =>
    cases b with
    | direct => simp
    | tag u => simpa [Via.byte] using zero_ne_tagByte u
  | tag t =>
    cases b with
    | direct => simpa [Via.byte] using (zero_ne_tagByte t).symm
    | tag u => rw [Via.tag.injEq]; exact tagByte_inj

@[simp] theorem Target.byte_inj {a b : Target} : a.byte = b.byte ↔ a = b := by
  have hne (r : ReturnId) (t : TagId) : (Target.ret r).byte ≠ (Target.tag t).byte := byteOf_ne (by omega) (by omega)
  cases a with
  | ret r =>
    cases b with
    | ret q => rw [Target.ret.injEq]; exact byteOf_fin_inj (by omega)
    | tag u => simpa using hne r u
  | tag t =>
    cases b with
    | ret q => simpa using (hne q t).symm
    | tag u =>
      rw [Target.tag.injEq, Target.byte, Target.byte, byteOf_inj_of_lt (by omega) (by omega), ← Fin.val_inj]
      omega

@[simp] theorem Origin.byte_inj {a b : Origin} : a.byte = b.byte ↔ a = b := by
  have hne (n : KeyId) : (Origin.key n).byte ≠ Origin.port.byte := byteOf_ne (k := 128) (by omega) (by decide)
  cases a with
  | port =>
    cases b with
    | port => simp
    | key m => simpa using (hne m).symm
  | key n =>
    cases b with
    | port => simpa using hne n
    | key m => rw [Origin.key.injEq]; exact byteOf_fin_inj (by omega)

/-! ### Records of requests -/

@[simp] theorem Request.bytes_inj {p q : Request} : p.bytes = q.bytes ↔ p = q := by
  cases p
  cases q
  simp [Request.bytes, byteOf_fin_inj]

end Sys2Proof.Machine

namespace Sys2Proof.Machine

/-! ## Reports hold every field

A report and the ranges of its record (R170) give the record back. -/

/-- Two lists of records in equally long blocks, of one number, agree block by block and in the rest. -/
theorem flatMap_append_inj {α β γ : Type} {f : α → List γ} {g : β → List γ} (hlen : ∀ a b, (f a).length = (g b).length) {x y : List γ} :
    ∀ {l : List α} {m : List β}, l.length = m.length →
      (l.flatMap f ++ x = m.flatMap g ++ y ↔ List.Forall₂ (fun a b => f a = g b) l m ∧ x = y)
  | [], [], _ => by simp
  | a :: l, b :: m, h => by
    rw [List.flatMap_cons, List.flatMap_cons, List.append_assoc, List.append_assoc,
      List.append_eq_append_iff_of_size_eq_left (hlen a b), flatMap_append_inj hlen (Nat.succ.inj h), List.forall₂_cons, and_assoc]

/-- A list of records of known number, from the blocks that determine them. -/
theorem flatMap_inj_of_injective {α γ : Type} {f g : α → List γ} {l m : List α} (he : l.flatMap f = m.flatMap g)
    (h : l.length = m.length) (hlen : ∀ a b, (f a).length = (g b).length) (hinj : ∀ a b, f a = g b → a = b) : l = m := by
  rw [← List.append_nil (l.flatMap f), ← List.append_nil (m.flatMap g), flatMap_append_inj hlen h] at he
  exact List.forall₂_eq_eq_eq ▸ he.1.imp fun a b => hinj a b

/-- The blocks of two vectors of records agree index by index. -/
theorem vector_flatMap_append_inj {α γ : Type} {n : Nat} {f : α → List γ} (hlen : ∀ a b, (f a).length = (f b).length) {v w : Vector α n}
    {x y : List γ} : v.toList.flatMap f ++ x = w.toList.flatMap f ++ y ↔ (∀ i : Fin n, f v[i] = f w[i]) ∧ x = y := by
  rw [flatMap_append_inj hlen (by simp), List.forall₂_iff_get]
  simp [Fin.forall_iff]

/-! ### The records -/

/-- A count that may be absent, given as its flag and its value, 0 where it is absent. -/
theorem option_eq_of_flag_and_count {a b : Option Nat} {k : Nat} (ha : ∀ n, a = some n → n < k) (hb : ∀ n, b = some n → n < k)
    (hflag : a.isSome = b.isSome) (hcount : a.getD 0 % k = b.getD 0 % k) : a = b := by
  cases a with
  | none => cases b <;> simp_all
  | some m =>
    cases b with
    | none => simp at hflag
    | some n =>
      rw [Option.getD_some, Option.getD_some, Nat.mod_eq_of_lt (ha m rfl), Nat.mod_eq_of_lt (hb n rfl)] at hcount
      rw [hcount]

theorem sourceBody_inj {s t : State} (hs : s.RangesLawful) (ht : t.RangesLawful) {i : SourceId} (h : sourceBody s i = sourceBody t i) :
    s.sources[i] = t.sources[i] := by
  have hguards (n) := hs.guards i n
  have hguardt (n) := ht.guards i n
  have hcounts := hs.silence i
  have hcountt := ht.silence i
  unfold sourceBody at h
  generalize s.sources[i] = x at *
  generalize t.sources[i] = y at *
  obtain ⟨hkind, hstage, hfader, hon, htalk, hflag, hguard, hconference, hsilent, hcount⟩ :
      x.kind = y.kind ∧ x.stage = y.stage ∧ x.fader = y.fader ∧ x.on = y.on ∧ x.talkLevel = y.talkLevel ∧
        x.guard.isSome = y.guard.isSome ∧ x.guard.getD 0 % 16777216 = y.guard.getD 0 % 16777216 ∧ x.conference = y.conference ∧
        x.silent = y.silent ∧ x.silenceCount % 16777216 = y.silenceCount % 16777216 := by
    simpa [indexByte_inj] using h
  have hguard' : x.guard = y.guard :=
    option_eq_of_flag_and_count (fun n hn => by have := hguards n hn; omega) (fun n hn => by have := hguardt n hn; omega) hflag hguard
  have hcount' : x.silenceCount = y.silenceCount := by omega
  cases x
  cases y
  simp_all

/-- The active request and its hold, in its range, from the bytes that report them (R42, R70). -/
theorem activeBytes_append_inj {a b : Option Active} (ha : ∀ x, a = some x → x.remaining ≤ 12288000)
    (hb : ∀ x, b = some x → x.remaining ≤ 12288000) {l m : List Byte} (h : activeBytes a ++ l = activeBytes b ++ m) :
    a = b ∧ l = m := by
  cases a with
  | none => cases b <;> simp_all [activeBytes]
  | some x =>
    cases b with
    | none => simp [activeBytes] at h
    | some y =>
      have hx := ha x rfl
      have hy := hb y rfl
      obtain ⟨hrequest, hremaining, hl⟩ : x.request = y.request ∧ x.remaining % 16777216 = y.remaining % 16777216 ∧ l = m := by
        rw [activeBytes, activeBytes, List.cons_append, List.cons_append, List.append_assoc, List.append_assoc] at h
        have h' := (List.append_eq_append_iff_of_size_eq_left (by rfl)).mp (List.cons.inj h).2
        simpa using h'
      have hremaining' : x.remaining = y.remaining := by omega
      cases x
      cases y
      simp_all

theorem tags_append_inj {v w : Vector (Option TagId) 3} {x y : List Byte} :
    v.toList.map tagPositionByte ++ x = w.toList.map tagPositionByte ++ y ↔ v = w ∧ x = y := by
  rw [List.append_eq_append_iff_of_size_eq_left (by simp), List.map_inj_right fun a b => tagPositionByte_inj.mp, Vector.toList_inj]

theorem returnBody_inj {s t : State} (hs : s.Lawful) (hrs : s.RangesLawful) (ht : t.Lawful) (hrt : t.RangesLawful) {r : ReturnId}
    (h : returnBody s r = returnBody t r) : s.returns[r] = t.returns[r] ∧ s.arbiter[r] = t.arbiter[r] := by
  have hceilings := hrs.ceilings r
  have hceilingt := hrt.ceilings r
  have hrefusals := hrs.refusals r
  have hrefusalt := hrt.refusals r
  have hholds (x) := hrs.holds r x
  have hholdt (x) := hrt.holds r x
  have hminuss := hs.tables.minusShort r
  have hminust := ht.tables.minusShort r
  have hwaits := (hs.arbiter r).short
  have hwaitt := (ht.arbiter r).short
  unfold returnBody at h
  generalize s.returns[r] = x at *
  generalize t.returns[r] = y at *
  generalize s.arbiter[r] = a at *
  generalize t.arbiter[r] = b at *
  simp only [List.cons_append, List.nil_append, List.append_assoc, List.cons.injEq, be16_append_inj, count24_append_inj,
    count16_append_inj, tags_append_inj, true_and, indexByte_inj (n := 32) (by omega), Feed.byte_inj, DeafMode.byte_inj] at h
  obtain ⟨hattached, hfeed, hlevel, hceiling, htags, hdeaf, hdip, hrefusal, _, _, _, hlength, h⟩ := h
  obtain ⟨hminus, h⟩ := (List.append_eq_append_iff_of_size_eq_left (by
    rw [List.length_map, List.length_map, (byteOf_inj_of_lt (by omega) (by omega)).mp hlength])).mp h
  obtain ⟨hactive, h⟩ := activeBytes_append_inj hholds hholdt h
  obtain ⟨hcount, h⟩ := List.cons.inj h
  have hwaiting : a.waiting = b.waiting :=
    flatMap_inj_of_injective h ((byteOf_inj_of_lt (by omega) (by omega)).mp hcount) (fun _ _ => rfl) fun _ _ => Request.bytes_inj.mp
  have hlist : x.minusList = y.minusList := List.map_injective_iff.mpr (fun i j => (byteOf_fin_inj (by omega)).mp) hminus
  have hceiling' : x.ceiling = y.ceiling := by omega
  have hrefusal' : x.refusals = y.refusals := by omega
  cases x
  cases y
  cases a
  cases b
  simp_all

theorem conferenceBody_inj {s t : State} (hs : s.ConferencesLawful) (ht : t.ConferencesLawful) {k : ConferenceId}
    (h : conferenceBody s k = conferenceBody t k) : s.conferences[k] = t.conferences[k] := by
  have hshorts := hs.short k
  have hshortt := ht.short k
  unfold conferenceBody at h
  generalize s.conferences[k] = x at *
  generalize t.conferences[k] = y at *
  simp only [List.append_assoc, List.cons.injEq, be16_append_inj, count16_append_inj, true_and] at h
  obtain ⟨hgain, hbed, hcount, h⟩ := h
  have hmembers : x.members = y.members :=
    flatMap_inj_of_injective h (by omega) (fun _ _ => rfl) fun i j hij => (byteOf_fin_inj (by omega)).mp (List.cons.inj hij).1
  cases x
  cases y
  simp_all

theorem cellBody_inj {s t : State} (hs : s.RangesLawful) (ht : t.RangesLawful) {ρ : Row} {i : SourceId}
    (h : cellBody s ρ i = cellBody t ρ i) : (s.row ρ)[i] = (t.row ρ)[i] := by
  have hsteps := hs.steps ρ i
  have hstept := ht.steps ρ i
  unfold cellBody at h
  generalize (s.row ρ)[i] = x at *
  generalize (t.row ρ)[i] = y at *
  simp only [List.cons_append, List.nil_append, List.append_assoc, List.cons.injEq, be16_append_inj, count16_append_inj, true_and] at h
  obtain ⟨htarget, hcurrent, hstep, _⟩ := h
  have hstep' : x.step = y.step := by omega
  cases x
  cases y
  simp_all

@[simp] theorem rowByte_inj {ρ σ : Row} : rowByte ρ = rowByte σ ↔ ρ = σ := by
  have hbyte (τ : Row) : rowByte τ = byteOf (rowIndex τ).val := by cases τ <;> rfl
  rw [hbyte, hbyte, byteOf_fin_inj (by omega), rowIndex_injective]

theorem rowByte_ne_none (ρ : Row) : rowByte ρ ≠ 0xFF := by
  cases ρ with
  | program => decide
  | ret r => exact byteOf_ne (k := 255) (by omega) (by decide)

/-- The queue holds each of the 25 rows once at most (R109). -/
theorem State.QueueLawful.length_le {s : State} (h : s.QueueLawful) : s.queue.length ≤ 25 := by
  have hrows : ((s.queue.map QueueEntry.row).map rowIndex).Nodup := h.map fun ρ σ => (rowIndex_injective ρ σ).mp
  simpa using hrows.length_le_card

theorem statusBody_inj {s t : State} (hs : s.RangesLawful) (hqs : s.QueueLawful) (ht : t.RangesLawful) (hqt : t.QueueLawful) {p : Port}
    (h : statusBody s p = statusBody t p) :
    s.sync = t.sync ∧ s.queue.length = t.queue.length ∧ s.inFlight.map (fun f => f.row) = t.inFlight.map (fun f => f.row) ∧
      (s.port p).overrun = (t.port p).overrun ∧ s.programStep = t.programStep ∧ s.talkStep = t.talkStep ∧
      s.airFeed = t.airFeed ∧ s.airDelay = t.airDelay ∧ s.debounceTime = t.debounceTime ∧ s.monitor = t.monitor := by
  have hlengths := hqs.length_le
  have hlengtht := hqt.length_le
  have hsteps := hs.programStep
  have hstept := ht.programStep
  have htalks := hs.talkStep
  have htalkt := ht.talkStep
  have hdelays := hs.airDelay
  have hdelayt := ht.airDelay
  have hdebounces := hs.debounce
  have hdebouncet := ht.debounce
  simp only [statusBody, List.cons_append, List.nil_append, List.append_assoc, List.cons.injEq, count16_append_inj, SyncState.byte_inj,
    flagByte_inj, indexByte_inj (n := 32) (by omega), indexByte_inj (n := 24) (by omega), byteOf_inj, and_true] at h
  obtain ⟨hsync, hqueue, hflight, hoverrun, hprogram, htalk, hfeed, hdelay, hdebounce, hmonitor⟩ := h
  have hrow : s.inFlight.map (fun f => f.row) = t.inFlight.map (fun f => f.row) := by
    cases hfs : s.inFlight with
    | none =>
      cases hft : t.inFlight with
      | none => rfl
      | some f => simp only [hfs, hft] at hflight; exact absurd hflight.symm (rowByte_ne_none _)
    | some e =>
      cases hft : t.inFlight with
      | none => simp only [hfs, hft] at hflight; exact absurd hflight (rowByte_ne_none _)
      | some f => simp only [hfs, hft] at hflight; simpa using hflight
  exact ⟨hsync, by omega, hrow, hoverrun, by omega, by omega, hfeed, by omega, by omega, hmonitor⟩

theorem bindingBytes_append_inj {a b : Option Binding} (hflag : a.isSome = b.isSome) {l m : List Byte} :
    bindingBytes a ++ l = bindingBytes b ++ m ↔ a = b ∧ l = m := by
  cases a with
  | none =>
    cases b with
    | none => simp
    | some y => simp at hflag
  | some x =>
    cases b with
    | none => simp at hflag
    | some y =>
      cases x
      cases y
      simp [bindingBytes, byteOf_fin_inj, and_assoc]

theorem keyBody_inj {s t : State} {n : KeyId} (h : keyBody s n = keyBody t n) :
    s.keys[n].binding = t.keys[n].binding ∧ s.keys[n].pressLevel = t.keys[n].pressLevel ∧ s.keys[n].keyMode = t.keys[n].keyMode ∧
      s.keys[n].accepted = t.keys[n].accepted ∧ (s.keys[n].debounce = .idle ↔ t.keys[n].debounce = .idle) ∧
      s.keys[n].pressCounted = t.keys[n].pressCounted ∧ s.keys[n].lastOutcome.bytes = t.keys[n].lastOutcome.bytes := by
  have hidle (d : Debounce) : d = .idle ↔ d.running = false := by cases d <;> simp [Debounce.running]
  unfold keyBody at h
  generalize s.keys[n] = x at *
  generalize t.keys[n] = y at *
  simp only [List.cons_append, List.nil_append, List.append_assoc, List.cons.injEq, true_and, flagByte_inj] at h
  obtain ⟨hflag, h⟩ := h
  rw [bindingBytes_append_inj hflag] at h
  simp only [List.cons.injEq, levelByte_inj, KeyMode.byte_inj, flagByte_inj] at h
  obtain ⟨hbinding, hpress, hmode, haccepted, _, hrunning, hcounted, houtcome⟩ := h
  exact ⟨hbinding, hpress, hmode, haccepted, by rw [hidle, hidle, hrunning], hcounted, houtcome⟩

theorem watchBody_inj {s t : State} (hs : s.RangesLawful) (ht : t.RangesLawful) (h : watchBody s = watchBody t) :
    s.watchCode = t.watchCode ∧ s.clipThreshold = t.clipThreshold ∧ s.silenceThreshold = t.silenceThreshold ∧
      s.silenceTime = t.silenceTime ∧ s.watchRemaining = t.watchRemaining ∧ s.lossMark = t.lossMark ∧ s.clips = t.clips ∧
      ∀ i : SourceId, s.sources[i].silent = t.sources[i].silent ∧ s.sources[i].silenceCount = t.sources[i].silenceCount := by
  have hcodes := hs.watchCode
  have hcodet := ht.watchCode
  have hclips := hs.clipThreshold
  have hclipt := ht.clipThreshold
  have hsilences := hs.silenceThreshold
  have hsilencet := ht.silenceThreshold
  have htimes := hs.silenceTime
  have htimet := ht.silenceTime
  have hremains := hs.watchRemaining
  have hremaint := ht.watchRemaining
  simp only [watchBody, watchSettings, List.cons_append, List.nil_append, List.append_assoc, List.cons.injEq, count16_append_inj,
    count24_append_inj, byteOf_inj, flagByte_inj] at h
  obtain ⟨hcode, hclip, hsilence, htime, hremaining, hloss, h⟩ := h
  rw [← List.append_nil (List.flatMap _ s.clips.toList), ← List.append_nil (List.flatMap _ t.clips.toList),
    vector_flatMap_append_inj (fun _ _ => rfl), vector_flatMap_append_inj (fun _ _ => rfl)] at h
  obtain ⟨hsources, hrecords, _⟩ := h
  refine ⟨by omega, by omega, by omega, by omega, by omega, hloss, Vector.ext fun r hr => ?_, fun i => ?_⟩
  · have hranges := hs.clips ⟨r, hr⟩
    have hranget := ht.clips ⟨r, hr⟩
    have hrecord := hrecords ⟨r, hr⟩
    simp only [Fin.getElem_fin] at hranges hranget hrecord
    generalize s.clips[r] = x at *
    generalize t.clips[r] = y at *
    simp only [count16_append_inj, List.cons.injEq, flagByte_inj, and_true] at hrecord
    obtain ⟨hcount, hcaptured, hover⟩ := hrecord
    have hcount' : x.count = y.count := by omega
    have hcaptured' : x.captured = y.captured := by omega
    cases x
    cases y
    simp_all
  · have hranges := hs.silence i
    have hranget := ht.silence i
    have hsource := hsources i
    simp only [List.cons.injEq, flagByte_inj, count24_inj] at hsource
    exact ⟨hsource.1, by omega⟩

end Sys2Proof.Machine

namespace Sys2Proof.Machine

open Claims

/-! ### The places of the base feed, the demotion, the row state and the pressed flag -/

theorem State.rowStateByte_eq (s : State) (ρ : Row) : s.rowStateByte ρ = rowState s ρ := by
  simp [State.rowStateByte, rowState, State.queued, State.flying, beq_eq_decide]

/-- Bytes 16 to 18 of READ RETURN: the base feed, the demoted flag and the row state (R170). -/
theorem returnBody_places (s : State) (r : ReturnId) : ∃ front back : List Byte, front.length = 16 ∧
    returnBody s r = front ++ baseByte (if s.silentListener r then none else some (s.baseFeed r)) ::
      flagByte (!s.silentListener r && decide (s.baseBeforeDemotion r = .air) && s.demotes r) :: s.rowStateByte (.ret r) :: back :=
  ⟨[byteOf r.val, indexByte s.returns[r].attached, s.returns[r].defaultFeed.byte] ++ be16 s.returns[r].level
      ++ count24 s.returns[r].ceiling ++ s.returns[r].tags.toList.map tagPositionByte ++ [s.returns[r].deaf.byte]
      ++ be16 s.returns[r].dipLevel ++ count16 s.returns[r].refusals,
    byteOf s.returns[r].minusList.length :: (s.returns[r].minusList.map (fun i => byteOf i.val) ++ activeBytes s.arbiter[r].active
      ++ byteOf s.arbiter[r].waiting.length :: s.arbiter[r].waiting.flatMap Request.bytes),
    by simp, by simp [returnBody]⟩

theorem returnBody_16_17_18 (s : State) (r : ReturnId) :
    (returnBody s r)[16]? = some (baseByte (if s.silentListener r then none else some (s.baseFeed r))) ∧
      (returnBody s r)[17]? =
        some (flagByte (!s.silentListener r && decide (s.baseBeforeDemotion r = .air) && s.demotes r)) ∧
      (returnBody s r)[18]? = some (rowState s (.ret r)) := by
  obtain ⟨front, back, hfront, hbody⟩ := returnBody_places s r
  simp [hbody, List.getElem?_append_right, hfront, State.rowStateByte_eq]

/-- The base feed of a listener that hears: what it wants, with the demotion of AIR (R37, R38). -/
theorem State.baseFeed_of_wants {s : State} {r : ReturnId} {f : Feed} (hv : ¬ AtStage s r .vacant) (hf : Wants s r f) :
    s.baseFeed r = if f = .air ∧ s.demotes r then .program else f := by
  unfold State.baseFeed
  rw [(wants_iff hv f).mp hf]
  cases f <;> simp

theorem returnBody_base_of_vacant {s : State} {r : ReturnId} (hv : AtStage s r .vacant) :
    (returnBody s r)[16]? = some 3 ∧ (returnBody s r)[17]? = some 0 := by
  obtain ⟨hbase, hdemoted, _⟩ := returnBody_16_17_18 s r
  rw [hbase, hdemoted, State.silentListener_iff.mpr hv]
  exact ⟨rfl, rfl⟩

theorem returnBody_base_of_wants {s : State} {r : ReturnId} {f : Feed} (hv : ¬ AtStage s r .vacant) (hf : Wants s r f) :
    (returnBody s r)[16]? = some (if f = .air ∧ s.demotes r then Feed.program else f).byte ∧
      (returnBody s r)[17]? = some (flagByte (decide (f = .air) && s.demotes r)) := by
  obtain ⟨hbase, hdemoted, _⟩ := returnBody_16_17_18 s r
  rw [hbase, hdemoted, State.baseFeed_of_wants hv hf, (wants_iff hv f).mp hf,
    Bool.eq_false_iff.mpr (mt State.silentListener_iff.mp hv)]
  simp [baseByte]

theorem cellBody_8 (s : State) (ρ : Row) (i : SourceId) : (cellBody s ρ i)[8]? = some (rowState s ρ) := by
  rw [← State.rowStateByte_eq]
  rfl

theorem keyBody_10 (s : State) (n : KeyId) : (keyBody s n)[10]? = some (flagByte s.keys[n].pressed) := by
  have hfive (b : Option Binding) : (bindingBytes b).length = 5 := by cases b <;> rfl
  simp [keyBody, List.getElem?_append, hfive]

end Sys2Proof.Machine
namespace Sys2Proof.Proofs

open Machine Claims

/-- Settles O15: each report gives its record back field by field, and the derived bytes stand at their places. -/
theorem readsShowEveryField : Obligations.ReadsShowEveryField := by
  refine ⟨fun s t hs hrs hqs ht hrt hqt => ⟨fun i => sourceBody_inj hrs hrt, fun r => returnBody_inj hs hrs ht hrt,
    fun k => conferenceBody_inj hs.conferences ht.conferences, fun p => statusBody_inj hrs hqs hrt hqt, fun n => keyBody_inj,
    fun ρ i => cellBody_inj hrs hrt, watchBody_inj hrs hrt⟩,
    fun s => ⟨fun r => ⟨fun hv => ?_, fun hv => ⟨?_, ?_, ?_, ?_⟩, ?_⟩, fun ρ i => cellBody_8 s ρ i, fun n => ?_⟩⟩
  · exact returnBody_base_of_vacant hv
  · exact fun hf => returnBody_base_of_wants hv hf
  · exact fun hf hd => by simpa [Feed.byte, flagByte, State.demotes_iff.mpr hd] using returnBody_base_of_wants hv hf
  · exact fun hf hd => by simpa [Feed.byte, flagByte, mt State.demotes_iff.mp hd] using returnBody_base_of_wants hv hf
  · exact fun hf => returnBody_base_of_wants hv hf
  · exact (returnBody_16_17_18 s r).2.2
  · rw [keyBody_10, Key.pressed, flagByte]
    simp only [decide_eq_true_eq]

end Sys2Proof.Proofs

end

section
/-! ## Device reset and the reads -/

namespace Sys2Proof.Machine

open Claims

/-! ### The part in device reset -/

theorem State.reset_conferences (k : ConferenceId) : State.reset.conferences[k] = Conference.reset := by simp [State.reset]

theorem State.reset_clips (r : ReturnId) : State.reset.clips[r] = Clip.reset := by simp [State.reset]

theorem State.reset_held (j : Fin 32) : State.reset.held[j] = 0 := by simp [State.reset]

theorem State.enterReset_keys (s : State) (n : KeyId) : s.enterReset.keys[n] = s.keys[n].inReset := by simp [State.enterReset]

theorem PortState.reset_attention : PortState.reset.attention = false := by decide

end Sys2Proof.Machine

namespace Sys2Proof.Proofs

open Machine Claims

/-- Settles O4: outside the keys, whose lines stay, the state in device reset has the records of the reset state. -/
theorem deviceResetRestoresEveryOtherBlock : Obligations.DeviceResetRestoresEveryOtherBlock := by
  intro s
  have hport : ∀ p : Port, s.enterReset.port p = PortState.reset := State.reset_port
  have hret : ∀ r : ReturnId, s.enterReset.returns[r] = Return.reset := State.reset_returns
  have harb : ∀ r : ReturnId, s.enterReset.arbiter[r] = Arbitration.reset := State.reset_arbiter
  have hclip : ∀ r : ReturnId, s.enterReset.clips[r] = Clip.reset := State.reset_clips
  have hrow : ∀ (ρ : Row) (i : SourceId), (s.enterReset.row ρ)[i] = Cell.reset := State.reset_row
  refine ⟨s.enterReset, rfl, rfl, rfl, fun p => ⟨hport p, ?_⟩, fun r => ⟨hret r, harb r, hclip r⟩, State.reset_conferences,
    s.enterReset_keys, hrow, State.reset_held, rfl, rfl, rfl, rfl, rfl, rfl, rfl, rfl, rfl, rfl, rfl, rfl, rfl, rfl, rfl, rfl⟩
  rw [State.attention, hport, PortState.reset_attention]

end Sys2Proof.Proofs

namespace Sys2Proof.Machine

open Claims

/-! ### Reads -/

/-- A read of what its argument names completes with the report and changes nothing (R168). -/
theorem completes_of_named {α : Type} {c : Instr} {p : Port} {code : Byte} {params : List Byte} {s : State} {arg : Option α} {x : α}
    {body : State → α → List Byte} (he : exec c s = s.perform c fun t => (t, reportOf arg (body t)))
    (hf : commandFrame c = some { port := p, code := code, params := params }) (ha : arg = some x) :
    Completes c p code params s s (ok (body s x)) :=
  completes_of_owner he hf (by rw [ha]; rfl)

/-- A read of nothing completes with INVALID (R166, R168). -/
theorem completes_of_unnamed {α : Type} {c : Instr} {p : Port} {code : Byte} {params : List Byte} {s : State} {arg : Option α}
    {body : State → α → List Byte} (he : exec c s = s.perform c fun t => (t, reportOf arg (body t)))
    (hf : commandFrame c = some { port := p, code := code, params := params }) (ha : arg = none) :
    Completes c p code params s s (refuse .invalid) :=
  completes_of_owner he hf (by rw [ha]; rfl)

theorem rowArg_of_names {b : Byte} {r : ReturnId} (hb : Names b r) : rowArg b = some (.ret r) := by
  have h : b ≠ 24 := by
    rintro rfl
    have : (24 : Nat) = r.val := hb
    omega
  rw [rowArg, if_neg h, indexArg_eq_some.mpr hb, Option.map_some]

theorem rowArg_eq_none {b : Byte} (h : 25 ≤ b.toNat) : rowArg b = none := by
  have hb : b ≠ 24 := by
    rintro rfl
    exact absurd h (by decide)
  rw [rowArg, if_neg hb, indexArg_eq_none.mpr (by omega), Option.map_none]

theorem cellArg_of {row source : Byte} {ρ : Row} {i : SourceId} (hρ : rowArg row = some ρ) (hi : Names source i) :
    cellArg row source = some (ρ, i) := by
  simp only [cellArg, hρ, indexArg_eq_some.mpr hi]

theorem cellArg_eq_none {row source : Byte} (h : 25 ≤ row.toNat ∨ 32 ≤ source.toNat) : cellArg row source = none := by
  unfold cellArg
  split
  · next hρ hi =>
    obtain h | h := h
    · rw [rowArg_eq_none h] at hρ
      cases hρ
    · rw [indexArg_eq_none.mpr h] at hi
      cases hi
  · rfl

/-- READ CELL of the cell that its arguments name (R117). -/
theorem readCell_completes {s : State} {p : Port} {row source : Byte} {ρ : Row} {i : SourceId} (hρ : rowArg row = some ρ)
    (hi : Names source i) : Completes (.readCell p row source) p 0x08 [row, source] s s (ok (cellBody s ρ i)) :=
  completes_of_named (x := (ρ, i)) (arg := cellArg row source) (body := fun t c => cellBody t c.1 c.2) rfl rfl (cellArg_of hρ hi)

/-! ### The lengths of the reports (R170) -/

/-- Records in blocks of one length. -/
theorem length_flatMap_of_block {α : Type} {f : α → List Byte} {k : Nat} (hf : ∀ a, (f a).length = k) (l : List α) :
    (l.flatMap f).length = l.length * k := by
  simp [List.length_flatMap, hf]

@[simp] theorem bindingBytes_length (b : Option Binding) : (bindingBytes b).length = 5 := by cases b <;> rfl

@[simp] theorem TalkCounts.bytes_length (c : TalkCounts) : c.bytes.length = 6 := rfl

@[simp] theorem KeyOutcome.bytes_length (o : KeyOutcome) : o.bytes.length = 8 := by cases o <;> rfl

theorem sourceBody_length (s : State) (i : SourceId) : (sourceBody s i).length = 17 := rfl

theorem statusBody_length (s : State) (p : Port) : (statusBody s p).length = 13 := rfl

theorem keyBody_length (s : State) (n : KeyId) : (keyBody s n).length = 21 := by simp [keyBody]

theorem cellBody_length (s : State) (ρ : Row) (i : SourceId) : (cellBody s ρ i).length = 9 := rfl

theorem watchBody_length (s : State) : (watchBody s).length = 259 := by
  have hsources : (s.sources.toList.flatMap fun x => flagByte x.silent :: count24 x.silenceCount).length = 32 * 4 := by
    rw [length_flatMap_of_block (k := 4) (fun _ => rfl), Vector.length_toList]
  have hclips : (s.clips.toList.flatMap fun c => count16 c.count ++ count16 c.captured ++ [flagByte c.overThreshold]).length = 24 * 5 := by
    rw [length_flatMap_of_block (k := 5) (fun _ => rfl), Vector.length_toList]
  simp only [watchBody, watchSettings, List.length_append, hsources, hclips]
  simp

theorem conferenceBody_length (s : State) (k : ConferenceId) :
    (conferenceBody s k).length = 7 + 2 * s.conferences[k].members.length := by
  have hmembers : (s.conferences[k].members.flatMap fun i => [byteOf i.val, indexByte (s.returnOf i)]).length =
      s.conferences[k].members.length * 2 := length_flatMap_of_block (k := 2) (fun _ => rfl) _
  simp only [conferenceBody, List.length_cons, List.length_append, hmembers, be16_length, count16_length]
  omega

end Sys2Proof.Machine

namespace Sys2Proof.Proofs

open Machine Claims

/-- Settles O14: each read is its report or INVALID by what its argument names, with the lengths of R170. -/
theorem readsReportAndChangeNothing : Obligations.ReadsReportAndChangeNothing := by
  refine ⟨fun s p b row => ⟨?_, ?_, ?_, ?_, ?_, ?_, ?_, ?_, ?_, ?_, ?_, ?_, ?_⟩, fun s => ⟨sourceBody_length s, statusBody_length s,
    keyBody_length s, cellBody_length s, watchBody_length s, conferenceBody_length s⟩⟩
  · exact fun i hi => completes_of_named (body := sourceBody) rfl rfl (indexArg_eq_some.mpr hi)
  · exact fun h => completes_of_unnamed (body := sourceBody) rfl rfl (indexArg_eq_none.mpr h)
  · exact fun r hr => completes_of_named (body := returnBody) rfl rfl (indexArg_eq_some.mpr hr)
  · exact fun h => completes_of_unnamed (body := returnBody) rfl rfl (indexArg_eq_none.mpr h)
  · exact fun k hk => completes_of_named (body := conferenceBody) rfl rfl (indexArg_eq_some.mpr hk)
  · exact fun h => completes_of_unnamed (body := conferenceBody) rfl rfl (indexArg_eq_none.mpr h)
  · exact completes_of_owner rfl rfl rfl
  · exact fun n hn => completes_of_named (body := keyBody) rfl rfl (indexArg_eq_some.mpr hn)
  · exact fun h => completes_of_unnamed (body := keyBody) rfl rfl (indexArg_eq_none.mpr h)
  · exact fun r i hr hi => readCell_completes (rowArg_of_names hr) hi
  · rintro i rfl hi
    exact readCell_completes rfl hi
  · exact fun h => completes_of_unnamed (arg := cellArg row b) (body := fun t c => cellBody t c.1 c.2) rfl rfl (cellArg_eq_none h)
  · exact completes_of_owner rfl rfl rfl

end Sys2Proof.Proofs

end

section
/-! ## The commands of the Return Table -/

namespace Sys2Proof.Machine

open Claims

/-- A return's record written and its row marked (R30, R35, R78). -/
theorem State.setReturn_markRows (s : State) (r : ReturnId) (x : Return) :
    (s.setReturn r x).markRows (onlyReturn r) = afterReturn s r x := by
  rw [State.markRows_eq]
  rfl

theorem optionArg_eq_none {n : Nat} {b : Byte} (hb : b ≠ 0xFF) (h : n ≤ b.toNat) : optionArg n b = none := by
  have hnone : b ≠ noneByte := hb
  rw [optionArg, if_neg hnone, indexArg_eq_none.mpr h, Option.map_none]

end Sys2Proof.Machine

namespace Sys2Proof.Proofs

open Machine Claims

/-- Settles O32: by whether the argument names a return (R35, R40, R78). -/
theorem returnSettingsAreWritten : Obligations.ReturnSettingsAreWritten := by
  intro s b l
  refine ⟨fun h => ?_, ?_, fun r hr => ?_⟩
  · have hnone : indexArg 24 b = none := indexArg_eq_none.mpr h
    refine ⟨completes_of_owner rfl rfl ?_, completes_of_owner rfl rfl ?_, fun hb => completes_of_owner rfl rfl ?_⟩
    · rw [ownerClearReturn, hnone]
    · rw [ownerSetDipLevel, hnone]
    · rw [ownerSelectMonitor, optionArg_eq_none hb h]
  · rintro rfl
    exact completes_of_owner rfl rfl rfl
  · have hsome : indexArg 24 b = some r := indexArg_eq_some.mpr hr
    refine ⟨completes_of_owner rfl rfl ?_, completes_of_owner rfl rfl ?_, completes_of_owner rfl rfl ?_⟩
    · simp only [ownerClearReturn, hsome, State.setReturn_markRows]
    · simp only [ownerSetDipLevel, hsome, State.setReturn_markRows]
    · rw [ownerSelectMonitor, optionArg_of_names (by decide) hr]

end Sys2Proof.Proofs

namespace Sys2Proof.Machine

open Claims

/-! ### ATTACH RETURN -/

/-- The requests of one return removed, as the rule gives it (R73, R74). -/
theorem State.listenerGone_joinQueue (s : State) (r : ReturnId) :
    s.listenerGone r =
      let u : State := { s with
        arbiter := s.arbiter.set r { active := none, waiting := [] }
        queue := if s.arbiter[r].active.isSome then joinQueue s.queue (onlyReturn r) true else s.queue }
      if s.arbiter[r].active.isSome ∨ s.arbiter[r].waiting ≠ [] then u.raise .listenerGone r.val else u := by
  have hheld : s.arbiter[r].held = true ↔ s.arbiter[r].active.isSome ∨ s.arbiter[r].waiting ≠ [] := by simp [Arbitration.held]
  rw [State.listenerGone_eq, markQueue_eq]
  by_cases h : s.arbiter[r].held = true
  · rw [if_pos h]
    exact (if_pos (hheld.mp h)).symm
  · rw [if_neg h]
    exact (if_neg (mt hheld.mpr h)).symm

/-- An attachment (R26, R27, R73). -/
theorem State.link_eq (s : State) (r : ReturnId) (a : Option SourceId) : s.link r a = afterAttachReturn s r a := by
  unfold State.link afterAttachReturn
  dsimp only
  rw [State.setReturn_markRows]
  cases a with
  | none => rfl
  | some i => rw [State.listenerGone_joinQueue]; rfl

/-- An argument of ATTACH RETURN that names no caller or codec is refused (R25 check 3). -/
theorem ownerAttachReturn_noRemote {s : State} {rb b : Byte} (hb : b ≠ 0xFF) (h : NoRemote s b) :
    ownerAttachReturn rb b s = (s, refuse .invalid) := by
  unfold ownerAttachReturn
  split
  · next r a _ ha =>
    cases a with
    | none => exact absurd (optionArg_eq_some_none ha) hb
    | some i =>
      have hkind : s.sources[i].kind.hasStage = false :=
        Bool.eq_false_iff.mpr (mt (Kind.hasStage_iff _).mp (h i (optionArg_eq_some_some ha)))
      simp only [hkind, Bool.not_false, if_true]
  · rfl

/-- ATTACH RETURN past its checks: an admitted value that no other return has (R26, R27). -/
theorem ownerAttachReturn_link {s : State} {rb b : Byte} {r : ReturnId} {a : Option SourceId} (hr : Names rb r)
    (ha : optionArg 32 b = some a) (hk : ∀ i, a = some i → Remote s.sources[i])
    (ho : ∀ i, a = some i → ∀ q : ReturnId, q ≠ r → s.returns[q].attached ≠ some i) :
    ownerAttachReturn rb b s =
      (if s.returns[r].attached = a then s else afterAttachReturn s r a, ok [indexByte s.returns[r].attached]) := by
  have hend : (if a = s.returns[r].attached then (s, ok [indexByte s.returns[r].attached])
        else (s.link r a, ok [indexByte s.returns[r].attached])) =
      (if s.returns[r].attached = a then s else afterAttachReturn s r a, ok [indexByte s.returns[r].attached]) := by
    simp only [eq_comm (a := a), State.link_eq]
    split <;> rfl
  simp only [ownerAttachReturn, indexArg_eq_some.mpr hr, ha]
  cases a with
  | none => exact hend
  | some i =>
    have hkind : s.sources[i].kind.hasStage = true := (Kind.hasStage_iff _).mpr (hk i rfl)
    have hfree : s.attachedElsewhere r i = false := State.attachedElsewhere_eq_false.mpr (ho i rfl)
    simp only [hkind, hfree, Bool.not_true, Bool.false_eq_true, if_false]
    exact hend

/-- ATTACH RETURN of a source that another return has (R25 check 4). -/
theorem ownerAttachReturn_inUse {s : State} {rb b : Byte} {r : ReturnId} {i : SourceId} (hr : Names rb r) (hi : Names b i)
    (hk : Remote s.sources[i]) (ho : ∃ q : ReturnId, q ≠ r ∧ s.returns[q].attached = some i) :
    ownerAttachReturn rb b s = (s, refuse .inUse) := by
  have hkind : s.sources[i].kind.hasStage = true := (Kind.hasStage_iff _).mpr hk
  have hbusy : s.attachedElsewhere r i = true := by
    obtain ⟨q, hq, ha⟩ := ho
    exact eq_true_of_ne_false fun h => State.attachedElsewhere_eq_false.mp h q hq ha
  simp only [ownerAttachReturn, indexArg_eq_some.mpr hr, optionArg_of_names (by decide) hi, hkind, hbusy, Bool.not_true,
    Bool.false_eq_true, if_false, if_true]

end Sys2Proof.Machine

namespace Sys2Proof.Proofs

open Machine Claims

/-- Settles O33: the checks in their order, then the value it has or a new one (R25 to R27). -/
theorem attachReturnLinksASource : Obligations.AttachReturnLinksASource := by
  intro s rb b
  refine ⟨fun h => completes_of_owner rfl rfl ?_, fun r hr => ⟨fun hb hn => completes_of_owner rfl rfl ?_, ?_,
    fun i hi hk => ⟨fun ho => completes_of_owner rfl rfl ?_, fun ho => completes_of_owner rfl rfl ?_⟩⟩⟩
  · rw [ownerAttachReturn, indexArg_eq_none.mpr h]
  · exact ownerAttachReturn_noRemote hb hn
  · rintro rfl
    exact completes_of_owner rfl rfl
      (ownerAttachReturn_link hr (optionArg_noneByte 32) (fun _ hi => by cases hi) fun _ hi => by cases hi)
  · exact ownerAttachReturn_inUse hr hi hk ho
  · exact ownerAttachReturn_link hr (optionArg_of_names (by decide) hi) (fun j hj => Option.some.inj hj ▸ hk)
      fun j hj => Option.some.inj hj ▸ ho

end Sys2Proof.Proofs

namespace Sys2Proof.Machine

open Claims

/-! ### SET MINUS LIST -/

/-- What SET MINUS LIST answers for the entry at a position: INVALID before DUPLICATE (R29 check 3). -/
theorem checkMinus_cases (s : State) {bs : List Byte} {n : Nat} {b : Byte} (hb : bs[n]? = some b) :
    (MinusInvalid s bs n ∧ checkMinus s n (bs.take n) b = some .invalid) ∨
    (¬ MinusInvalid s bs n ∧ MinusRepeats bs n ∧ checkMinus s n (bs.take n) b = some .duplicate) ∨
    (¬ MinusInvalid s bs n ∧ ¬ MinusRepeats bs n ∧ checkMinus s n (bs.take n) b = none) := by
  have hinvalid : MinusInvalid s bs n ↔ ∀ i : SourceId, Names b i → ¬ Joinable s.sources[i] := by simp [MinusInvalid, hb]
  have hrepeats : MinusRepeats bs n ↔ (bs.take n).contains b = true := by
    rw [List.contains_eq_any_beq, any_take_iff]
    simp [MinusRepeats, hb]
  rw [hinvalid, hrepeats, checkMinus]
  cases hi : indexArg 32 b with
  | none =>
    refine .inl ⟨fun i h => ?_, rfl⟩
    rw [indexArg_eq_some.mpr h] at hi
    cases hi
  | some i =>
    have hnames : Names b i := indexArg_eq_some.mp hi
    dsimp only
    split
    · next hj =>
      refine .inl ⟨fun j h => ?_, rfl⟩
      rw [Fin.ext (h.symm.trans hnames)]
      exact mt (Kind.mayJoin_iff _).mpr hj
    · next hj =>
      have hvalid : ¬ ∀ j : SourceId, Names b j → ¬ Joinable s.sources[j] :=
        fun h => h i hnames ((Kind.mayJoin_iff _).mp (not_not.mp hj))
      split
      · next hd => exact .inr (.inl ⟨hvalid, hd, rfl⟩)
      · next hd => exact .inr (.inr ⟨hvalid, hd, rfl⟩)

/-- SET MINUS LIST's first failing entry (R29). -/
theorem checkMinus_first {s : State} {bs : List Byte} {n : Nat} (h : FirstFailure (fun m => MinusInvalid s bs m ∨ MinusRepeats bs m) n) :
    (MinusInvalid s bs n → checkEntries (checkMinus s) 0 [] bs = some (n, .invalid)) ∧
    (¬ MinusInvalid s bs n → checkEntries (checkMinus s) 0 [] bs = some (n, .duplicate)) := by
  obtain ⟨hn, hbefore⟩ := h
  have hentry : ∃ b, bs[n]? = some b := hn.elim (fun ⟨b, hb, _⟩ => ⟨b, hb⟩) fun ⟨b, _, hb, _⟩ => ⟨b, hb⟩
  obtain ⟨b, hb⟩ := hentry
  have hpass : ∀ m d, m < n → bs[m]? = some d → checkMinus s m (bs.take m) d = none := by
    intro m d hm hd
    obtain ⟨hv, hr⟩ := not_or.mp (hbefore m hm)
    obtain ⟨hf, _⟩ | ⟨_, hf, _⟩ | ⟨_, _, hc⟩ := checkMinus_cases s hd
    · exact absurd hf hv
    · exact absurd hf hr
    · exact hc
  have hanswer : ∀ r, checkMinus s n (bs.take n) b = some r → checkEntries (checkMinus s) 0 [] bs = some (n, r) := by
    intro r hr
    rw [checkEntries_eq_some]
    exact ⟨n, b, by simp, hb, by simpa using hr, by simpa using hpass⟩
  refine ⟨fun hv => hanswer _ ?_, fun hv => hanswer _ ?_⟩
  · obtain ⟨_, hc⟩ | ⟨hf, _⟩ | ⟨hf, _⟩ := checkMinus_cases s hb
    · exact hc
    · exact absurd hv hf
    · exact absurd hv hf
  · obtain ⟨hf, _⟩ | ⟨_, _, hc⟩ | ⟨_, hr, _⟩ := checkMinus_cases s hb
    · exact absurd hf hv
    · exact hc
    · exact absurd hn (not_or.mpr ⟨hv, hr⟩)

/-- A list of different sources of kinds the list admits passes (R29). -/
theorem checkMinus_pass {s : State} {l : List SourceId} (hd : l.Nodup) (hk : ∀ i ∈ l, Joinable s.sources[i]) :
    checkEntries (checkMinus s) 0 [] (l.map fun i => byteOf i.val) = none := by
  have hinj : Function.Injective fun i : SourceId => byteOf i.val := fun i j => (byteOf_fin_inj (by omega)).mp
  rw [checkEntries_eq_none]
  intro n b hb
  obtain ⟨i, hi, rfl⟩ : ∃ i, l[n]? = some i ∧ byteOf i.val = b := by simpa using hb
  have hvalid : ¬ MinusInvalid s (l.map fun i => byteOf i.val) n := by
    rintro ⟨_, hc, hno⟩
    obtain rfl := Option.some.inj (hb.symm.trans hc)
    exact hno i (byteOf_names i (by omega)) (hk i (List.mem_of_getElem? hi))
  have hfresh : ¬ MinusRepeats (l.map fun i => byteOf i.val) n := by
    rintro ⟨c, m, hc, hm, hd'⟩
    have hlen : n < (l.map fun i => byteOf i.val).length := (List.getElem?_eq_some_iff.mp hb).1
    exact List.nodup_iff_getElem?_ne_getElem?.mp (hd.map hinj) m n hm hlen (hd'.trans hc.symm)
  obtain ⟨hf, _⟩ | ⟨_, hf, _⟩ | ⟨_, _, hc⟩ := checkMinus_cases s hb
  · exact absurd hf hvalid
  · exact absurd hf hfresh
  · simpa using hc

theorem filterMap_indexArg_byteOf (l : List SourceId) : (l.map fun i => byteOf i.val).filterMap (indexArg 32) = l := by
  have h : ∀ i : SourceId, indexArg 32 (byteOf i.val) = some i := fun i => indexArg_eq_some.mpr (byteOf_names i (by omega))
  rw [List.filterMap_map, Function.comp_def]
  simp only [h, List.filterMap_some]

end Sys2Proof.Machine

namespace Sys2Proof.Proofs

open Machine Claims

/-- Settles O31: the number of entries, then the first failing one, then the list as given (R29, R30). -/
theorem setMinusListReplacesTheList : Obligations.SetMinusListReplacesTheList := by
  intro s rb bs
  refine ⟨fun h => completes_of_owner rfl rfl ?_, fun r hr => ?_⟩
  · rw [ownerSetMinusList, indexArg_eq_none.mpr h]
  have hsome : indexArg 24 rb = some r := indexArg_eq_some.mpr hr
  refine ⟨fun hlong => completes_of_owner rfl rfl ?_, fun hshort => ⟨fun n hn =>
    ⟨fun hv => completes_of_owner rfl rfl ?_, fun hv => completes_of_owner rfl rfl ?_⟩, ?_⟩⟩
  · simp only [ownerSetMinusList, hsome, if_pos hlong]
    rfl
  · simp only [ownerSetMinusList, hsome, if_neg (Nat.not_lt.mpr hshort), (checkMinus_first hn).1 hv]
    rfl
  · simp only [ownerSetMinusList, hsome, if_neg (Nat.not_lt.mpr hshort), (checkMinus_first hn).2 hv]
    rfl
  · rintro l rfl hd hk
    refine completes_of_owner rfl rfl ?_
    simp only [ownerSetMinusList, hsome, if_neg (Nat.not_lt.mpr hshort), checkMinus_pass hd hk, filterMap_indexArg_byteOf,
      State.setReturn_markRows]

end Sys2Proof.Proofs

namespace Sys2Proof.Machine

open Claims

/-! ### SET RETURN -/

theorem feedArg_isNone (b : Byte) : (feedArg b).isNone = true ↔ 3 ≤ b.toNat := by
  unfold feedArg
  split
  · next h => simp [h]
  · next h => simp [h]
  · next h => simp [h]
  · next h0 h1 h2 =>
    have hne : b.toNat ≠ 0 ∧ b.toNat ≠ 1 ∧ b.toNat ≠ 2 := ⟨h0, h1, h2⟩
    exact iff_of_true rfl (by omega)

theorem feedArg_of_lt {b : Byte} (h : ¬ 3 ≤ b.toNat) : feedArg b = some (feedOf b) := by
  have hb : b = 0 ∨ b = 1 ∨ b = 2 := by bv_omega
  obtain rfl | rfl | rfl := hb <;> rfl

/-- SET RETURN checks its entries as the rule says (R32). -/
theorem checkReturn_decides (es : List ReturnEntry) : ChecksDecide checkReturn .invalid es (ReturnFails es) := by
  refine ⟨fun n ⟨e, he, _⟩ => ⟨e, he⟩, fun n e he => ?_⟩
  have hentry : ∀ P : ReturnEntry → Prop, (∃ d, es[n]? = some d ∧ P d) ↔ P e := by simp [he]
  unfold ReturnFails checkReturn
  rw [hentry]
  simp only [Option.isNone_iff_eq_none (o := indexArg 24 e.1), indexArg_eq_none, feedArg_isNone, ← beq_iff_eq (α := Byte), ← any_take_iff]
  split
  · next h => exact .inl ⟨h, rfl⟩
  · next h => exact .inr ⟨h, rfl⟩

/-- A table after the entries of a list have been written, each to the record it names. -/
def writtenTable {α β : Type} {n : Nat} (v : Vector β n) (key : α → Byte) (upd : α → β → β) (es : List α) : Vector β n :=
  Vector.ofFn fun i => match es.find? fun e => (key e).toNat == i.val with
    | none => v[i]
    | some e => upd e v[i]

theorem writtenTable_nil {α β : Type} {n : Nat} (v : Vector β n) (key : α → Byte) (upd : α → β → β) : writtenTable v key upd [] = v := by
  ext1 i hi
  simp [writtenTable]

/-- The first entry may be written before the others, which do not name its record. -/
theorem writtenTable_cons {α β : Type} {n : Nat} (v : Vector β n) {key : α → Byte} (upd : α → β → β) {e : α} {es : List α} {i : Fin n}
    (hi : Names (key e) i) (hne : key e ∉ es.map key) :
    writtenTable (v.set i (upd e v[i])) key upd es = writtenTable v key upd (e :: es) := by
  unfold writtenTable
  congr 1
  funext j
  by_cases hj : i = j
  · subst hj
    have hrest : (es.find? fun d => (key d).toNat == i.val) = none := by
      rw [List.find?_eq_none]
      exact fun d hd hk => hne (List.mem_map.mpr ⟨d, hd, BitVec.eq_of_toNat_eq ((beq_iff_eq.mp hk).trans hi.symm)⟩)
    have hhead : ((key e).toNat == i.val) = true := beq_iff_eq.mpr hi
    simp [hrest, hhead]
  · have hhead : ((key e).toNat == j.val) = false := beq_eq_false_iff_ne.mpr fun h => hj (Fin.ext (hi.symm.trans h))
    have hread : (v.set i (upd e v[i]))[j] = v[j] := Vector.getElem_set_ne _ _ fun h => hj (Fin.ext h)
    simp only [List.find?_cons, hhead, hread]

/-- What an entry of SET RETURN writes to its return (R32, R33). -/
def returnWrite (e : ReturnEntry) (x : Return) : Return :=
  { x with level := e.2.1, ceiling := min 8388607 e.2.2.1.toNat, defaultFeed := feedOf e.2.2.2 }

theorem State.writeReturn_of {t : State} {e : ReturnEntry} {r : ReturnId} (hr : Names e.1 r) (hf : ¬ 3 ≤ e.2.2.2.toNat) :
    t.writeReturn e = t.setReturn r (returnWrite e t.returns[r]) := by
  simp only [State.writeReturn, indexArg_eq_some.mpr hr, feedArg_of_lt hf, Proofs.clamp_zero, returnWrite, Nat.min_comm]

theorem foldl_writeReturn {es : List ReturnEntry} (h : ∀ e ∈ es, (∃ r : ReturnId, Names e.1 r) ∧ ¬ 3 ≤ e.2.2.2.toNat)
    (hd : (es.map Prod.fst).Nodup) (s : State) :
    es.foldl State.writeReturn s = { s with returns := writtenTable s.returns Prod.fst returnWrite es } := by
  induction es generalizing s with
  | nil => rw [writtenTable_nil]; rfl
  | cons e es ih =>
    obtain ⟨⟨r, hr⟩, hf⟩ := h e List.mem_cons_self
    obtain ⟨hne, hd⟩ := List.nodup_cons.mp hd
    rw [List.foldl_cons, State.writeReturn_of hr hf, ih (fun d hm => h d (List.mem_cons_of_mem e hm)) hd,
      ← writtenTable_cons s.returns returnWrite hr hne]
    rfl

/-- A list that passes is written whole, and the rows it names are marked (R32, R33). -/
theorem foldl_writeReturn_markRows {s : State} {es : List ReturnEntry} (h : ∀ n, ¬ ReturnFails es n) :
    (es.foldl State.writeReturn s).markRows (namedRow es) = afterSetReturn s es := by
  have hnodup : (es.map Prod.fst).Nodup := nodup_of_no_repeat fun n e he hr => h n ⟨e, he, .inr (.inr (.inl hr))⟩
  have hreads : ∀ e ∈ es, (∃ r : ReturnId, Names e.1 r) ∧ ¬ 3 ≤ e.2.2.2.toNat := by
    intro e he
    obtain ⟨n, hn⟩ := List.mem_iff_getElem?.mp he
    have hlow : e.1.toNat < 24 := Nat.lt_of_not_le fun hl => h n ⟨e, hn, .inr (.inl hl)⟩
    exact ⟨⟨⟨e.1.toNat, hlow⟩, rfl⟩, fun hf => h n ⟨e, hn, .inr (.inr (.inr hf))⟩⟩
  have hrows : namedRow es = fun ρ => match ρ with | .program => false | .ret r => es.any fun e => e.1.toNat == r.val := by
    funext ρ
    cases ρ <;> rfl
  have hreturns : writtenTable s.returns Prod.fst returnWrite es = (afterSetReturn s es).returns := by
    unfold writtenTable afterSetReturn
    congr 1
    funext r
    cases es.find? fun e => e.1.toNat == r.val <;> rfl
  rw [foldl_writeReturn hreads hnodup, State.markRows_eq, hreturns, hrows]
  rfl

end Sys2Proof.Machine

namespace Sys2Proof.Proofs

open Machine Claims

/-- Settles O30: the first failing entry refuses the list, and a list without one is written whole (R32, R33). -/
theorem setReturnWritesAllOrNothing : Obligations.SetReturnWritesAllOrNothing := by
  refine fun s es => ⟨fun n hn => completes_of_owner rfl rfl ?_, fun h => completes_of_owner rfl rfl ?_⟩
  · rw [ownerSetReturn, (checkReturn_decides es).first hn]
    rfl
  · rw [ownerSetReturn, (checkReturn_decides es).pass h]
    simp only [foldl_writeReturn_markRows h]

end Sys2Proof.Proofs

end

section
/-! ## The law of the conferences

R43 and R53 speak of the member lists and of three fields of each source record: `State.seats` reads them off a state, most steps leave
them alone, and the others recast a source, let it leave its conference or let it enter one. -/

namespace Sys2Proof.Machine

/-- What the law of the conferences speaks of (R43, R53). -/
@[ext] structure Seats where
  kind : SourceId → Kind
  stage : SourceId → Stage
  conference : SourceId → Option ConferenceId
  members : ConferenceId → List SourceId

/-- The seats of a state. -/
def State.seats (s : State) : Seats where
  kind i := s.sources[i].kind
  stage i := s.sources[i].stage
  conference i := s.sources[i].conference
  members k := s.conferences[k].members

/-- A kind and a stage in which a source may be a member (R53). -/
def Admitted (kind : Kind) (stage : Stage) : Prop :=
  kind = .studio ∨ ((kind = .caller ∨ kind = .codec) ∧ (stage = .screen ∨ stage = .hold ∨ stage = .ready))

/-- The law of the conferences on the seats alone (R43, R53). -/
structure Seats.Lawful (c : Seats) : Prop where
  short : ∀ k, (c.members k).length ≤ 8
  distinct : ∀ k, (c.members k).Nodup
  agree : ∀ i k, c.conference i = some k ↔ i ∈ c.members k
  admitted : ∀ i k, i ∈ c.members k → Admitted (c.kind i) (c.stage i)

theorem State.conferencesLawful_iff {s : State} : s.ConferencesLawful ↔ s.seats.Lawful :=
  ⟨fun h => ⟨h.short, h.distinct, h.agree, h.admitted⟩, fun h => ⟨h.short, h.distinct, h.agree, h.admitted⟩⟩

theorem State.ConferencesLawful.of_seats {s t : State} (h : t.seats = s.seats) (hs : s.ConferencesLawful) : t.ConferencesLawful := by
  rw [State.conferencesLawful_iff] at hs ⊢
  rwa [h]

/-! ### Seats that change -/

namespace Seats

/-- A source of another kind or stage. -/
def recast (c : Seats) (i : SourceId) (kind : Kind) (stage : Stage) : Seats :=
  { c with kind := Function.update c.kind i kind, stage := Function.update c.stage i stage }

/-- A source out of its conference, if it is in one (R49, R51). -/
def leave (c : Seats) (i : SourceId) : Seats :=
  match c.conference i with
  | none => c
  | some k =>
    { c with
      conference := Function.update c.conference i none
      members := Function.update c.members k ((c.members k).filter fun m => m != i) }

/-- A source that is in no conference appended to one (R47). -/
def enter (c : Seats) (i : SourceId) (k : ConferenceId) : Seats :=
  { c with
    conference := Function.update c.conference i (some k)
    members := Function.update c.members k (c.members k ++ [i]) }

variable {c : Seats} {i : SourceId}

theorem recast_self (c : Seats) (i : SourceId) : c.recast i (c.kind i) (c.stage i) = c := by simp [recast]

/-- Leaving reads and writes nothing that a recast does. -/
theorem recast_leave (c : Seats) (i : SourceId) (kind : Kind) (stage : Stage) :
    (c.recast i kind stage).leave i = (c.leave i).recast i kind stage := by
  unfold leave recast
  dsimp only
  cases c.conference i <;> rfl

theorem leave_kind (c : Seats) (i : SourceId) : (c.leave i).kind = c.kind := by
  unfold leave
  split <;> rfl

theorem leave_stage (c : Seats) (i : SourceId) : (c.leave i).stage = c.stage := by
  unfold leave
  split <;> rfl

theorem leave_conference (c : Seats) (i : SourceId) : (c.leave i).conference = Function.update c.conference i none := by
  unfold leave
  split
  · next h => rw [← h, Function.update_eq_self]
  · rfl

theorem leave_members_sublist (c : Seats) (i : SourceId) (l : ConferenceId) : ((c.leave i).members l).Sublist (c.members l) := by
  unfold leave
  split
  · exact .refl _
  · next k _ =>
    by_cases hl : l = k
    · subst hl
      simp
    · simp [hl]

theorem mem_leave_members (h : c.Lawful) {j : SourceId} {l : ConferenceId} :
    j ∈ (c.leave i).members l ↔ j ∈ c.members l ∧ j ≠ i := by
  have hin : ∀ m, i ∈ c.members m → c.conference i = some m := fun m => (h.agree i m).mpr
  unfold leave
  split
  · next hc =>
    refine ⟨fun hj => ⟨hj, ?_⟩, And.left⟩
    rintro rfl
    rw [hin l hj] at hc
    cases hc
  · next k hc =>
    by_cases hl : l = k
    · subst hl
      simp
    · simp only [Function.update_of_ne hl]
      refine ⟨fun hj => ⟨hj, ?_⟩, And.left⟩
      rintro rfl
      exact hl (Option.some.inj ((hin l hj).symm.trans hc))

theorem mem_enter_members {j : SourceId} {k l : ConferenceId} :
    j ∈ (c.enter i k).members l ↔ j ∈ c.members l ∨ (j = i ∧ l = k) := by
  unfold enter
  by_cases hl : l = k
  · subst hl
    simp
  · simp [hl]

/-- A source may be recast where it is in no conference, or may be a member as it comes to be. -/
theorem Lawful.recast (h : c.Lawful) {kind : Kind} {stage : Stage} (ha : c.conference i = none ∨ Admitted kind stage) :
    (c.recast i kind stage).Lawful where
  short := h.short
  distinct := h.distinct
  agree := h.agree
  admitted j k hj := by
    unfold Seats.recast
    by_cases hji : j = i
    · subst hji
      have hmember : c.conference j = some k := (h.agree j k).mpr hj
      rw [hmember] at ha
      simpa using ha
    · simpa [hji] using h.admitted j k hj

theorem Lawful.leave (h : c.Lawful) (i : SourceId) : (c.leave i).Lawful where
  short k := (c.leave_members_sublist i k).length_le.trans (h.short k)
  distinct k := (h.distinct k).sublist (c.leave_members_sublist i k)
  agree j k := by
    rw [mem_leave_members h, leave_conference, ← h.agree j k]
    by_cases hj : j = i
    · subst hj
      simp
    · simp [hj]
  admitted j k hj := by
    rw [leave_kind, leave_stage]
    exact h.admitted j k ((mem_leave_members h).mp hj).1

theorem Lawful.enter (h : c.Lawful) {k : ConferenceId} (hc : c.conference i = none) (hl : (c.members k).length < 8)
    (ha : Admitted (c.kind i) (c.stage i)) : (c.enter i k).Lawful := by
  have hout : ∀ l, i ∉ c.members l := fun l hi => by
    rw [(h.agree i l).mpr hi] at hc
    cases hc
  have hlists : ∀ P : List SourceId → Prop, P (c.members k ++ [i]) → (∀ l, P (c.members l)) → ∀ l, P ((c.enter i k).members l) :=
    fun P hk hold l => by
      unfold Seats.enter
      by_cases hlk : l = k
      · subst hlk
        simpa using hk
      · simpa [hlk] using hold l
  exact
    { short := hlists (fun l => l.length ≤ 8) (by simpa using hl) h.short
      distinct := hlists List.Nodup (by simpa [List.nodup_append] using ⟨h.distinct k, fun j hj hji => hout k (hji ▸ hj)⟩) h.distinct
      agree := fun j l => by
        rw [mem_enter_members, ← h.agree j l]
        unfold Seats.enter
        by_cases hj : j = i
        · subst hj
          simp [hc, eq_comm]
        · simp [hj]
      admitted := fun j l hj => by
        obtain hj | ⟨rfl, _⟩ := mem_enter_members.mp hj
        · exact h.admitted j l hj
        · exact ha }

end Seats

end Sys2Proof.Machine
end

section
/-! ### What the operations do to the seats -/

namespace Sys2Proof.Machine

section Operations

variable (s : State)

/-- States that hold the same source and conference records. -/
theorem State.seats_of_tables {s t : State} (hs : t.sources = s.sources) (hc : t.conferences = s.conferences) : t.seats = s.seats := by
  simp only [State.seats, hs, hc]

@[simp] theorem State.setPort_seats (p : Port) (q : PortState) : (s.setPort p q).seats = s.seats := rfl
@[simp] theorem State.setReturn_seats (r : ReturnId) (x : Return) : (s.setReturn r x).seats = s.seats := rfl
@[simp] theorem State.setKey_seats (n : KeyId) (k : Key) : (s.setKey n k).seats = s.seats := rfl
@[simp] theorem State.raise_seats (k : NoticeKind) (i : Nat) : (s.raise k i).seats = s.seats := rfl

@[simp] theorem State.markRows_seats (p : Row → Bool) : (s.markRows p).seats = s.seats := by
  rw [State.markRows_eq]
  rfl

@[simp] theorem State.markUnlessEmpty_seats {α : Type} (es : List α) (p : Row → Bool) : (s.markUnlessEmpty es p).seats = s.seats := by
  unfold State.markUnlessEmpty
  split
  · rfl
  · exact s.markRows_seats p

/-- The arbiter's operations leave every seat. -/
theorem State.TalkScope.seats {s t : State} (h : s.TalkScope t) : t.seats = s.seats := by
  rw [State.TalkScope] at h
  rw [h]
  rfl

theorem State.foldl_seats {β : Type} {f : State → β → State} (h : ∀ (t : State) b, (f t b).seats = t.seats) (l : List β) :
    (l.foldl f s).seats = s.seats :=
  foldl_keeps (fun t => t.seats = s.seats) f (fun t b ht => (h t b).trans ht) l s rfl

theorem State.setSource_field {α : Type} (f : Source → α) (i : SourceId) (x : Source) :
    (fun j : SourceId => f (s.setSource i x).sources[j]) = Function.update (fun j : SourceId => f s.sources[j]) i (f x) := by
  funext j
  rw [State.setSource_read, Function.update_apply, apply_ite f]
  exact if_congr eq_comm rfl rfl

/-- What a source record's writer does to the seats. -/
theorem State.setSource_seats (i : SourceId) (x : Source) : (s.setSource i x).seats =
    { s.seats with
      kind := Function.update s.seats.kind i x.kind
      stage := Function.update s.seats.stage i x.stage
      conference := Function.update s.seats.conference i x.conference } :=
  Seats.ext (s.setSource_field Source.kind i x) (s.setSource_field Source.stage i x) (s.setSource_field Source.conference i x) rfl

theorem State.setSource_recast (i : SourceId) {x : Source} (hc : x.conference = s.sources[i].conference) :
    (s.setSource i x).seats = s.seats.recast i x.kind x.stage := by
  have hsame : Function.update s.seats.conference i x.conference = s.seats.conference := by
    rw [hc]
    exact Function.update_eq_self i _
  rw [State.setSource_seats, hsame]
  rfl

/-- A write to the fields of a source record that the law does not speak of. -/
theorem State.setSource_seats_same (i : SourceId) {x : Source} (hk : x.kind = s.sources[i].kind) (hs : x.stage = s.sources[i].stage)
    (hc : x.conference = s.sources[i].conference) : (s.setSource i x).seats = s.seats := by
  rw [s.setSource_recast i hc, hk, hs]
  exact s.seats.recast_self i

theorem State.setConference_seats (k : ConferenceId) (x : Conference) :
    (s.setConference k x).seats = { s.seats with members := Function.update s.seats.members k x.members } := by
  refine Seats.ext rfl rfl rfl (funext fun l => ?_)
  show (s.setConference k x).conferences[l].members = Function.update s.seats.members k x.members l
  rw [State.setConference_read, Function.update_apply, apply_ite Conference.members]
  exact if_congr eq_comm rfl rfl

theorem State.setMembership_seats (i : SourceId) (k : Option ConferenceId) :
    (s.setMembership i k).seats = { s.seats with conference := Function.update s.seats.conference i k } :=
  (s.setSource_seats i _).trans (Seats.ext (Function.update_eq_self i _) (Function.update_eq_self i _) rfl rfl)

theorem State.unlist_seats (k : ConferenceId) (i : SourceId) : (s.unlist k i).seats =
    { s.seats with members := Function.update s.seats.members k ((s.seats.members k).filter fun m => m != i) } :=
  s.setConference_seats k _

/-- A member out of its list and its record (R49, R51). -/
theorem State.unlist_setMembership_seats {i : SourceId} {k : ConferenceId} (h : s.sources[i].conference = some k) :
    ((s.unlist k i).setMembership i none).seats = s.seats.leave i := by
  have hc : s.seats.conference i = some k := h
  rw [State.setMembership_seats, State.unlist_seats]
  simp only [Seats.leave, hc]

theorem State.exitConference_seats (i : SourceId) : (s.exitConference i).seats = s.seats.leave i := by
  unfold State.exitConference
  split
  · next h =>
    have hc : s.seats.conference i = none := h
    simp only [Seats.leave, hc]
  · next k h => exact s.unlist_setMembership_seats h

/-- A join is a leave and an entry (R47, R48). -/
theorem State.enterConference_seats (i : SourceId) (k : ConferenceId) : (s.enterConference i k).seats = (s.seats.leave i).enter i k := by
  unfold State.enterConference
  dsimp only
  rw [State.setMembership_seats, State.setConference_seats]
  split
  · next h =>
    have hc : s.seats.conference i = none := h
    simp only [Seats.leave, hc]
    rfl
  · next prior h =>
    have hc : s.seats.conference i = some prior := h
    have hl : ∀ u : State, u.conferences[k].members = u.seats.members k := fun _ => rfl
    simp only [Seats.leave, hc, hl, State.unlist_seats, Seats.enter, Function.update_idem]

theorem State.putOnAir_seats (i : SourceId) : (s.putOnAir i).seats = (s.seats.leave i).recast i s.sources[i].kind .air := by
  unfold State.putOnAir
  rw [State.markRows_seats, State.raise_seats, State.exitConference_seats, ← Seats.recast_leave]
  exact congrArg (Seats.leave · i) (s.setSource_recast i rfl)

theorem State.endCall_seats (i : SourceId) : (s.endCall i).seats = (s.seats.leave i).recast i s.sources[i].kind .vacant := by
  unfold State.endCall
  rw [(State.listenersGone_scope _ i).seats, State.markRows_seats, State.exitConference_seats, ← Seats.recast_leave]
  exact congrArg (Seats.leave · i) (s.setSource_recast i rfl)

/-! ### Operations that leave every seat -/

theorem State.writeFader_seats (e : Byte × Coeff) : (s.writeFader e).seats = s.seats := by
  unfold State.writeFader
  split
  · rfl
  · exact s.setSource_seats_same _ rfl rfl rfl

theorem State.writeOn_seats (e : Byte × Byte) : (s.writeOn e).seats = s.seats := by
  unfold State.writeOn
  split
  · exact s.setSource_seats_same _ rfl rfl rfl
  · rfl

theorem State.writeReturn_seats (e : ReturnEntry) : (s.writeReturn e).seats = s.seats := by
  unfold State.writeReturn
  split
  · exact s.setReturn_seats _ _
  · rfl

theorem State.link_seats (r : ReturnId) (a : Option SourceId) : (s.link r a).seats = s.seats := by
  unfold State.link
  cases a with
  | none => exact State.markRows_seats _ _
  | some i =>
    dsimp only
    split
    · exact (State.listenerGone_scope _ r).seats.trans (State.markRows_seats _ _)
    · exact State.markRows_seats _ _

theorem State.transact_seats (p : Port) (bits : List Bool) : (s.transact p bits).seats = s.seats := by
  unfold State.transact
  split
  · rfl
  · split
    · obtain ⟨slot, overrun, ha⟩ := s.arrive_frame p _ bits.length
      rw [ha]
      exact s.setPort_seats p _
    · exact s.setPort_seats p _
    · rfl

theorem State.keyTalk_seats (n : KeyId) (b : Binding) : (s.keyTalk n b).1.seats = s.seats := by
  unfold State.keyTalk
  split
  · dsimp only
    exact (s.talkOn_scope _ _).seats
  · dsimp only
    exact (s.talkGroup_scope _ _).seats

theorem State.keyRelease_seats (b : Binding) : (s.keyRelease b).1.seats = s.seats := by
  unfold State.keyRelease
  split
  · next r _ =>
    have hr := (s.releaseOn_scope r (byOriginator b.originator)).seats
    split <;> next hu => rw [hu] at hr; exact hr
  · dsimp only
    exact (s.releaseAll_scope _).seats

theorem State.pressKey_seats (n : KeyId) (b : Binding) : (s.pressKey n b).seats = s.seats := by
  unfold State.pressKey
  dsimp only
  split
  · exact State.keyTalk_seats _ n b
  · split
    · exact State.keyRelease_seats _ b
    · exact State.keyTalk_seats _ n b

theorem State.releaseKey_seats (n : KeyId) (b : Binding) : (s.releaseKey n b).seats = s.seats := by
  unfold State.releaseKey
  rw [State.setKey_seats]
  split
  · exact s.keyRelease_seats b
  · rfl
  · rfl

theorem State.acceptKey_seats (n : KeyId) : (s.acceptKey n).seats = s.seats := by
  unfold State.acceptKey
  dsimp only
  split
  · rfl
  · split
    · exact State.pressKey_seats _ n _
    · exact State.releaseKey_seats _ n _

theorem State.unbind_seats (n : KeyId) : (s.unbind n).1.seats = s.seats := by
  rw [State.unbind_fst, State.setKey_seats]
  exact (s.releaseAll_scope _).seats

theorem State.expireGuard_seats (i : SourceId) : (s.expireGuard i).seats = s.seats := by
  unfold State.expireGuard
  rw [State.markRows_seats]
  exact s.setSource_seats_same i rfl rfl rfl

theorem State.expireHold_seats (r : ReturnId) : (s.expireHold r).seats = s.seats := by
  rw [State.expireHold_frame]
  rfl

theorem State.takeRow_seats : s.takeRow.seats = s.seats := by
  unfold State.takeRow
  split <;> rfl

theorem State.completeRow_seats : s.completeRow.seats = s.seats := by
  unfold State.completeRow
  split <;> rfl

theorem State.tickGuards_seats : s.tickGuards.seats = s.seats := by
  unfold State.seats State.tickGuards
  simp

theorem Source.hear_seat (limit : Nat) (isLoud : Bool) (x : Source) :
    (x.hear limit isLoud).kind = x.kind ∧ (x.hear limit isLoud).stage = x.stage ∧ (x.hear limit isLoud).conference = x.conference := by
  unfold Source.hear
  split <;> exact ⟨rfl, rfl, rfl⟩

theorem State.hearSource_seats (x : Vector Sample 32) (i : SourceId) : (s.hearSource x i).seats = s.seats := by
  obtain ⟨hk, hs, hc⟩ := Source.hear_seat s.silenceLimit (loud s.silenceThreshold x[i]) s.sources[i]
  have hset := s.setSource_seats_same i hk hs hc
  unfold State.hearSource
  dsimp only
  split
  · split <;> exact hset
  · rfl

theorem State.watchTick_seats : s.watchTick.seats = s.seats := by
  unfold State.watchTick
  rw [State.closeInterval_frame]
  split <;> rfl

theorem State.lockSync_seats : s.lockSync.seats = s.seats := by
  unfold State.lockSync
  dsimp only
  split <;> rfl

theorem State.mix_seats (x : Vector Sample 32) : (s.mix x).seats = s.seats := by
  unfold State.mix State.rampAll
  exact State.seats_of_tables rfl rfl

theorem State.tickHolds_seats : s.tickHolds.seats = s.seats := by
  unfold State.tickHolds
  exact State.seats_of_tables rfl rfl

theorem State.endFrame_seats : s.endFrame.seats = s.seats := State.seats_of_tables rfl rfl

theorem State.hearAll_seats (x : Vector Sample 32) : (s.hearAll x).seats = s.seats :=
  s.foldl_seats (fun t i => t.hearSource_seats x i) _

theorem State.countClip_seats (r : ReturnId) : (s.countClip r).seats = s.seats := by
  rw [State.countClip_frame]
  rfl

theorem State.countClips_seats (flags : Vector Bool 24) : (s.countClips flags).seats = s.seats :=
  s.foldl_seats (fun t r => by
    split
    · exact t.countClip_seats r
    · rfl) _

/-- A frame arrival leaves every seat (R119, R144). -/
theorem State.takeFrame_seats (slots : Vector SlotWord 32) : (s.takeFrame slots).seats = s.seats := by
  unfold State.takeFrame
  rw [State.lockSync_seats, State.watchTick_seats, State.countClips_seats, State.hearAll_seats, State.tickHolds_seats,
    State.tickGuards_seats, State.mix_seats, State.endFrame_seats]

end Operations

end Sys2Proof.Machine
end

section
/-! ### The commands of the owning blocks -/

namespace Sys2Proof.Machine

open Claims

section SeatsKept

variable (s : State)

theorem ownerAcknowledge_seats (p : Port) (kinds : Byte) : (ownerAcknowledge p kinds s).1.seats = s.seats := by
  unfold ownerAcknowledge
  split <;> rfl

theorem ownerSetNoticeMask_seats (p : Port) (kinds : Byte) : (ownerSetNoticeMask p kinds s).1.seats = s.seats := by
  unfold ownerSetNoticeMask
  split <;> rfl

theorem ownerSetFaders_seats (es : List (Byte × Coeff)) : (ownerSetFaders es s).1.seats = s.seats := by
  unfold ownerSetFaders
  split
  · rfl
  · exact (State.markUnlessEmpty_seats _ es everyRow).trans (s.foldl_seats State.writeFader_seats es)

theorem ownerSetSourceOn_seats (es : List (Byte × Byte)) : (ownerSetSourceOn es s).1.seats = s.seats := by
  unfold ownerSetSourceOn
  split
  · rfl
  · exact (State.markUnlessEmpty_seats _ es everyRow).trans (s.foldl_seats State.writeOn_seats es)

theorem ownerSetReturn_seats (es : List ReturnEntry) : (ownerSetReturn es s).1.seats = s.seats := by
  unfold ownerSetReturn
  split
  · rfl
  · exact (State.markRows_seats _ (namedRow es)).trans (s.foldl_seats State.writeReturn_seats es)

theorem ownerSetMinusList_seats (ret : Byte) (bs : List Byte) : (ownerSetMinusList ret bs s).1.seats = s.seats := by
  unfold ownerSetMinusList
  split
  · rfl
  · split
    · rfl
    · split
      · rfl
      · exact State.markRows_seats _ _

theorem ownerClearReturn_seats (ret : Byte) : (ownerClearReturn ret s).1.seats = s.seats := by
  unfold ownerClearReturn
  split
  · rfl
  · exact State.markRows_seats _ _

theorem ownerSetDipLevel_seats (ret : Byte) (l : Coeff) : (ownerSetDipLevel ret l s).1.seats = s.seats := by
  unfold ownerSetDipLevel
  split
  · rfl
  · exact State.markRows_seats _ _

theorem ownerSetTags_seats (ret b0 b1 b2 d : Byte) : (ownerSetTags ret b0 b1 b2 d s).1.seats = s.seats := by
  unfold ownerSetTags
  split
  · dsimp only
    split <;> rfl
  · rfl

theorem ownerClearRefusals_seats (ret : Byte) : (ownerClearRefusals ret s).1.seats = s.seats := by
  unfold ownerClearRefusals
  split
  · rfl
  · rfl
  · exact State.seats_of_tables rfl rfl

theorem ownerSelectMonitor_seats (ret : Byte) : (ownerSelectMonitor ret s).1.seats = s.seats := by
  unfold ownerSelectMonitor
  split <;> rfl

theorem ownerSetAirFeed_seats (source : Byte) : (ownerSetAirFeed source s).1.seats = s.seats := by
  unfold ownerSetAirFeed
  split
  · rfl
  · exact State.markRows_seats _ _
  · split
    · exact State.markRows_seats _ _
    · rfl

theorem ownerAttachReturn_seats (ret source : Byte) : (ownerAttachReturn ret source s).1.seats = s.seats := by
  unfold ownerAttachReturn
  split
  · dsimp only
    simp only [apply_ite Prod.fst, apply_ite State.seats, State.link_seats, ite_self]
  · rfl

theorem ownerSetConference_seats (conference : Byte) (g b : Coeff) : (ownerSetConference conference g b s).1.seats = s.seats := by
  unfold ownerSetConference
  split
  · rfl
  · next k _ =>
    have hset := s.setConference_seats k { s.conferences[k] with gain := g, bed := b }
    have hlist : Function.update s.seats.members k s.conferences[k].members = s.seats.members := Function.update_eq_self k _
    rw [State.markRows_seats, hset, hlist]

theorem ownerTalkDirect_seats (o : Byte) (ret : BitVec 7) (m p h : Byte) : (ownerTalkDirect o ret m p h s).1.seats = s.seats := by
  unfold ownerTalkDirect
  split
  · dsimp only
    exact (s.talkOn_scope _ _).seats
  · rfl

theorem ownerTalkTag_seats (o : Byte) (tag : BitVec 7) (m p h : Byte) : (ownerTalkTag o tag m p h s).1.seats = s.seats := by
  unfold ownerTalkTag
  split
  · dsimp only
    exact (s.talkGroup_scope _ _).seats
  · rfl

theorem ownerReleaseDirect_seats (o : Byte) (ret : BitVec 7) : (ownerReleaseDirect o ret s).1.seats = s.seats := by
  unfold ownerReleaseDirect
  split
  · next i r _ _ =>
    have hr := (s.releaseOn_scope r (byOriginator i)).seats
    split <;> next hu => rw [hu] at hr; exact hr
  · rfl

theorem ownerReleaseTag_seats (o : Byte) (tag : BitVec 7) : (ownerReleaseTag o tag s).1.seats = s.seats := by
  unfold ownerReleaseTag
  split
  · dsimp only
    exact (s.releaseAll_scope _).seats
  · rfl

theorem ownerSetTalkLevel_seats (source : Byte) (l : Coeff) : (ownerSetTalkLevel source l s).1.seats = s.seats := by
  unfold ownerSetTalkLevel
  split
  · rfl
  · exact (State.markRows_seats _ _).trans (s.setSource_seats_same _ rfl rfl rfl)

theorem ownerBindKey_seats (key o target m p h l km : Byte) : (ownerBindKey key o target m p h l km s).1.seats = s.seats := by
  unfold ownerBindKey
  split
  · next n b level keyMode _ _ =>
    dsimp only
    rw [State.setKey_seats]
    split
    · exact s.unbind_seats n
    · rfl
  · rfl

theorem ownerUnbindKey_seats (key : Byte) : (ownerUnbindKey key s).1.seats = s.seats := by
  unfold ownerUnbindKey
  split
  · rfl
  · next n _ =>
    split
    · rfl
    · exact s.unbind_seats n

theorem execKeyLineChange_seats {n : KeyId} {level : Level} {t : State} (h : execKeyLineChange n level s = .next t) :
    t.seats = s.seats := by
  unfold execKeyLineChange at h
  split at h
  · exact Host.Outcome.next.inj h ▸ rfl
  · split at h <;> exact Host.Outcome.next.inj h ▸ s.setKey_seats n _

end SeatsKept

section SeatsChanged

variable {s : State}

/-- A member stands where members may stand (R53). -/
theorem State.ConferencesLawful.out_of_stage (h : s.ConferencesLawful) {i : SourceId} (hr : Remote s.sources[i])
    (hs : s.sources[i].stage = .vacant ∨ s.sources[i].stage = .air) : s.sources[i].conference = none := by
  by_contra hc
  obtain ⟨k, hk⟩ := Option.ne_none_iff_exists'.mp hc
  obtain hstudio | ⟨_, hstage⟩ := h.admitted i k ((h.agree i k).mp hk)
  · obtain hr | hr := hr <;> rw [hstudio] at hr <;> cases hr
  · obtain hs | hs := hs <;> rw [hs] at hstage <;> exact absurd hstage (by decide)

/-- A source record rewritten but for its conference: a member stays where members may stand. -/
theorem State.ConferencesLawful.setSource (h : s.ConferencesLawful) (i : SourceId) {x : Source}
    (hc : x.conference = s.sources[i].conference) (ha : s.sources[i].conference = none ∨ Admitted x.kind x.stage) :
    (s.setSource i x).ConferencesLawful := by
  rw [State.conferencesLawful_iff] at h ⊢
  rw [s.setSource_recast i hc]
  exact h.recast ha

theorem State.ConferencesLawful.moveStage (h : s.ConferencesLawful) {i : SourceId} (hr : Remote s.sources[i]) {g : Stage}
    (hg : g = .screen ∨ g = .hold ∨ g = .ready) : (s.moveStage i g).ConferencesLawful :=
  .of_seats (State.markRows_seats _ _) (h.setSource i rfl (.inr (.inr ⟨hr, hg⟩)))

theorem State.ConferencesLawful.dropToHold (h : s.ConferencesLawful) {i : SourceId} (hr : Remote s.sources[i]) :
    (s.dropToHold i).ConferencesLawful := by
  unfold State.dropToHold
  exact .of_seats ((State.markRows_seats _ _).trans (State.raise_seats _ _ _)) (h.setSource i rfl (.inr (.inr ⟨hr, .inr (.inl rfl)⟩)))

/-- A source that leaves its conference may come to any stage (R13, R15). -/
theorem Seats.Lawful.leave_recast {c : Seats} (h : c.Lawful) (i : SourceId) (kind : Kind) (stage : Stage) :
    ((c.leave i).recast i kind stage).Lawful :=
  (h.leave i).recast (.inl (by rw [Seats.leave_conference, Function.update_self]))

theorem State.ConferencesLawful.putOnAir (h : s.ConferencesLawful) (i : SourceId) : (s.putOnAir i).ConferencesLawful := by
  rw [State.conferencesLawful_iff] at h ⊢
  rw [State.putOnAir_seats]
  exact h.leave_recast i _ _

theorem State.ConferencesLawful.endCall (h : s.ConferencesLawful) (i : SourceId) : (s.endCall i).ConferencesLawful := by
  rw [State.conferencesLawful_iff] at h ⊢
  rw [State.endCall_seats]
  exact h.leave_recast i _ _

/-- An AIR source is in no conference, so that a forced drop takes it out of none (R16, R53). -/
theorem State.ConferencesLawful.forceDrop (h : s.ConferencesLawful) {i : SourceId} (hr : Remote s.sources[i])
    (hs : s.sources[i].stage = .air) : (s.forceDrop i).ConferencesLawful := by
  unfold State.forceDrop
  exact .of_seats ((State.raise_seats _ _ _).trans ((State.listenersGone_scope _ i).seats.trans (State.markRows_seats _ _)))
    (h.setSource i rfl (.inl (h.out_of_stage hr (.inr hs))))

theorem State.ConferencesLawful.ownerAttach (h : s.ConferencesLawful) (b : Byte) : (ownerAttach b s).1.ConferencesLawful := by
  refine State.withRemote_keeps b h fun i hr => ?_
  split
  · exact h.moveStage hr (.inl rfl)
  all_goals exact h

theorem State.ConferencesLawful.ownerScreen (h : s.ConferencesLawful) (b : Byte) : (ownerScreen b s).1.ConferencesLawful := by
  refine State.withRemote_keeps b h fun i hr => ?_
  split
  · exact h
  · exact h.moveStage hr (.inl rfl)
  · exact h.moveStage hr (.inl rfl)
  all_goals exact h

theorem State.ConferencesLawful.ownerPark (h : s.ConferencesLawful) (b : Byte) : (ownerPark b s).1.ConferencesLawful := by
  refine State.withRemote_keeps b h fun i hr => ?_
  split
  · exact h
  · exact h.moveStage hr (.inr (.inl rfl))
  · exact h.moveStage hr (.inr (.inl rfl))
  all_goals exact h

theorem State.ConferencesLawful.ownerMarkReady (h : s.ConferencesLawful) (b : Byte) : (ownerMarkReady b s).1.ConferencesLawful := by
  have hready : ∀ i, Remote s.sources[i] → ((s.moveStage i .ready).raise .readyMarked i.val).ConferencesLawful := fun i hr =>
    (h.moveStage hr (.inr (.inr rfl))).of_seats (State.raise_seats _ _ _)
  refine State.withRemote_keeps b h fun i hr => ?_
  split
  · exact h
  · exact hready i hr
  · exact hready i hr
  all_goals exact h

theorem State.ConferencesLawful.ownerTake (h : s.ConferencesLawful) (b : Byte) : (ownerTake b s).1.ConferencesLawful := by
  refine State.withRemote_keeps b h fun i _ => ?_
  split
  · exact h.putOnAir i
  all_goals exact h

theorem State.ConferencesLawful.ownerDrop (h : s.ConferencesLawful) (b : Byte) : (ownerDrop b s).1.ConferencesLawful := by
  refine State.withRemote_keeps b h fun i hr => ?_
  split
  · exact h.dropToHold hr
  all_goals exact h

theorem State.ConferencesLawful.ownerDetach (h : s.ConferencesLawful) (b : Byte) : (ownerDetach b s).1.ConferencesLawful := by
  refine State.withRemote_keeps b h fun i hr => ?_
  split
  · exact h
  · exact h.endCall i
  · exact h.endCall i
  · exact h.endCall i
  · next hs => exact h.forceDrop hr hs

/-- A free source is in no conference, so that it may take any kind (R4). -/
theorem State.ConferencesLawful.ownerSetSourceKind (h : s.ConferencesLawful) (source kind : Byte) :
    (ownerSetSourceKind source kind s).1.ConferencesLawful := by
  unfold Machine.ownerSetSourceKind
  split
  · next i k _ _ =>
    split
    · next hf =>
      have hout : s.sources[i].conference = none :=
        Option.eq_none_iff_forall_ne_some.mpr fun l hl => ((s.free_iff i).mp hf).outside l ((h.agree i l).mp hl)
      exact h.setSource i rfl (.inl hout)
    · exact h
  · exact h

/-- What JOIN has checked of a source lets it be a member (R46, R53). -/
theorem admitted_of_joinable {x : Source} (hk : Joinable x) (hs : ¬ (Remote x ∧ (x.stage = .vacant ∨ x.stage = .air))) :
    Admitted x.kind x.stage := by
  by_cases hr : Remote x
  · refine .inr ⟨hr, ?_⟩
    have hon : ¬ (x.stage = .vacant ∨ x.stage = .air) := fun h => hs ⟨hr, h⟩
    cases hx : x.stage <;> simp [hx] at hon ⊢
  · exact .inl (by tauto)

/-- JOIN admits no source but one that may be a member, and no ninth (R46 to R48). -/
theorem State.ConferencesLawful.ownerJoin (h : s.ConferencesLawful) (source conference : Byte) :
    (ownerJoin source conference s).1.ConferencesLawful := by
  unfold Machine.ownerJoin
  split
  · next i k _ _ =>
    dsimp only
    split
    · exact h
    · next hkind =>
      split
      · exact h
      · next hstage =>
        split
        · exact h
        · split
          · exact h
          · next hfull =>
            have hseat := admitted_of_joinable ((Kind.mayJoin_iff _).mp (not_not.mp hkind))
              fun hr => hstage (hr.imp_left (Kind.hasStage_iff _).mpr)
            rw [State.conferencesLawful_iff] at h ⊢
            rw [State.markRows_seats, State.enterConference_seats]
            refine (h.leave i).enter (by rw [Seats.leave_conference, Function.update_self]) ?_ ?_
            · exact (s.seats.leave_members_sublist i k).length_le.trans_lt (Nat.lt_of_not_le hfull)
            · rw [Seats.leave_kind, Seats.leave_stage]
              exact hseat
  · exact h

theorem State.ConferencesLawful.ownerLeave (h : s.ConferencesLawful) (source : Byte) : (ownerLeave source s).1.ConferencesLawful := by
  unfold Machine.ownerLeave
  split
  · exact h
  · next i _ =>
    split
    · exact h
    · next k hk =>
      rw [State.conferencesLawful_iff] at h ⊢
      rw [State.markRows_seats, s.unlist_setMembership_seats hk]
      exact h.leave i

end SeatsChanged

/-! ### Every command keeps the law of the conferences -/

/-- A command whose owner keeps the law of the conferences. -/
theorem State.perform_conferencesLawful {c : Instr} {owner : State → State × Answer} {s t : State} (hs : s.ConferencesLawful)
    (ht : exec c s = .next t) (he : exec c s = s.perform c owner)
    (h : ∀ s : State, s.ConferencesLawful → (owner s).1.ConferencesLawful) : t.ConferencesLawful :=
  State.perform_keeps (fun s p q hs => hs.of_seats (s.setPort_seats p q)) h hs (he ▸ ht)

/-- A command whose owner leaves every seat. -/
theorem State.perform_conferencesLawful_of_seats {c : Instr} {owner : State → State × Answer} {s t : State} (hs : s.ConferencesLawful)
    (ht : exec c s = .next t) (he : exec c s = s.perform c owner) (h : ∀ s : State, (owner s).1.seats = s.seats) :
    t.ConferencesLawful :=
  State.perform_conferencesLawful hs ht he fun s hs => hs.of_seats (h s)

/-- An event of the part that leaves every seat. -/
theorem State.whenever_conferencesLawful_of_seats {s event t : State} {condition : Bool} (h : event.seats = s.seats) (hs : s.ConferencesLawful)
    (he : s.whenever condition event = .next t) : t.ConferencesLawful :=
  State.whenever_keeps hs (fun _ => hs.of_seats h) he

theorem State.startFrame_seats (s : State) : s.startFrame.seats = s.seats := by
  unfold State.startFrame
  exact State.seats_of_tables rfl rfl

theorem State.loseSync_seats (s : State) : s.loseSync.seats = s.seats := by
  unfold State.loseSync State.silenceOutputs State.raiseSyncChange
  exact State.seats_of_tables rfl rfl

theorem State.enterReset_seats (s : State) : s.enterReset.seats = State.reset.seats := by
  unfold State.enterReset
  exact State.seats_of_tables rfl rfl

theorem State.leaveReset_seats (s : State) : s.leaveReset.seats = s.seats := by
  unfold State.leaveReset
  exact State.seats_of_tables rfl rfl

/-- Every command keeps the law of the conferences, by the command's own lemma. -/
theorem exec_keeps_conferencesLawful (c : Instr) {s t : State} (hs : s.ConferencesLawful) (h : exec c s = .next t) :
    t.ConferencesLawful := by
  cases c with
  | commandTransaction p frame => exact State.whenever_conferencesLawful_of_seats (s.transact_seats _ _) hs h
  | fetch p dataIn => exact State.whenever_conferencesLawful_of_seats (s.transact_seats _ _) hs h
  | invalidTransaction p x => exact State.whenever_conferencesLawful_of_seats (s.transact_seats _ _) hs h
  | readSource p b => exact State.perform_conferencesLawful_of_seats hs h rfl (fun _ => rfl)
  | readReturn p b => exact State.perform_conferencesLawful_of_seats hs h rfl (fun _ => rfl)
  | readConference p b => exact State.perform_conferencesLawful_of_seats hs h rfl (fun _ => rfl)
  | readStatus p => exact State.perform_conferencesLawful_of_seats hs h rfl (fun _ => rfl)
  | readKey p b => exact State.perform_conferencesLawful_of_seats hs h rfl (fun _ => rfl)
  | readCell p row b => exact State.perform_conferencesLawful_of_seats hs h rfl (fun _ => rfl)
  | readWatch p => exact State.perform_conferencesLawful_of_seats hs h rfl (fun _ => rfl)
  | acknowledge p kinds => exact State.perform_conferencesLawful_of_seats hs h rfl (fun s => ownerAcknowledge_seats s p kinds)
  | setNoticeMask p kinds => exact State.perform_conferencesLawful_of_seats hs h rfl (fun s => ownerSetNoticeMask_seats s p kinds)
  | setSourceKind b k => exact State.perform_conferencesLawful hs h rfl (fun s hs => hs.ownerSetSourceKind b k)
  | setFaders es => exact State.perform_conferencesLawful_of_seats hs h rfl (fun s => ownerSetFaders_seats s es)
  | setSourceOn es => exact State.perform_conferencesLawful_of_seats hs h rfl (fun s => ownerSetSourceOn_seats s es)
  | take b => exact State.perform_conferencesLawful hs h rfl (fun s hs => hs.ownerTake b)
  | drop b => exact State.perform_conferencesLawful hs h rfl (fun s hs => hs.ownerDrop b)
  | setReturn es => exact State.perform_conferencesLawful_of_seats hs h rfl (fun s => ownerSetReturn_seats s es)
  | setMinusList r bs => exact State.perform_conferencesLawful_of_seats hs h rfl (fun s => ownerSetMinusList_seats s r bs)
  | clearReturn r => exact State.perform_conferencesLawful_of_seats hs h rfl (fun s => ownerClearReturn_seats s r)
  | setAirFeed b => exact State.perform_conferencesLawful_of_seats hs h rfl (fun s => ownerSetAirFeed_seats s b)
  | setAirDelay d => exact State.perform_conferencesLawful_of_seats hs h rfl (fun _ => rfl)
  | setRampSteps p k => exact State.perform_conferencesLawful_of_seats hs h rfl (fun _ => rfl)
  | setWatch w c th st => exact State.perform_conferencesLawful_of_seats hs h rfl (fun _ => rfl)
  | selectMonitor r => exact State.perform_conferencesLawful_of_seats hs h rfl (fun s => ownerSelectMonitor_seats s r)
  | attach b => exact State.perform_conferencesLawful hs h rfl (fun s hs => hs.ownerAttach b)
  | detach b => exact State.perform_conferencesLawful hs h rfl (fun s hs => hs.ownerDetach b)
  | screen b => exact State.perform_conferencesLawful hs h rfl (fun s hs => hs.ownerScreen b)
  | park b => exact State.perform_conferencesLawful hs h rfl (fun s hs => hs.ownerPark b)
  | markReady b => exact State.perform_conferencesLawful hs h rfl (fun s hs => hs.ownerMarkReady b)
  | attachReturn r b => exact State.perform_conferencesLawful_of_seats hs h rfl (fun s => ownerAttachReturn_seats s r b)
  | join b k => exact State.perform_conferencesLawful hs h rfl (fun s hs => hs.ownerJoin b k)
  | leave b => exact State.perform_conferencesLawful hs h rfl (fun s hs => hs.ownerLeave b)
  | setConference k g b => exact State.perform_conferencesLawful_of_seats hs h rfl (fun s => ownerSetConference_seats s k g b)
  | talkDirect o r m p hc => exact State.perform_conferencesLawful_of_seats hs h rfl (fun s => ownerTalkDirect_seats s o r m p hc)
  | talkTag o g m p hc => exact State.perform_conferencesLawful_of_seats hs h rfl (fun s => ownerTalkTag_seats s o g m p hc)
  | releaseDirect o r => exact State.perform_conferencesLawful_of_seats hs h rfl (fun s => ownerReleaseDirect_seats s o r)
  | releaseTag o g => exact State.perform_conferencesLawful_of_seats hs h rfl (fun s => ownerReleaseTag_seats s o g)
  | setTalkLevel b l => exact State.perform_conferencesLawful_of_seats hs h rfl (fun s => ownerSetTalkLevel_seats s b l)
  | setDipLevel r l => exact State.perform_conferencesLawful_of_seats hs h rfl (fun s => ownerSetDipLevel_seats s r l)
  | setTags r a b c d => exact State.perform_conferencesLawful_of_seats hs h rfl (fun s => ownerSetTags_seats s r a b c d)
  | bindKey n o g m p hc l km => exact State.perform_conferencesLawful_of_seats hs h rfl (fun s => ownerBindKey_seats s n o g m p hc l km)
  | unbindKey n => exact State.perform_conferencesLawful_of_seats hs h rfl (fun s => ownerUnbindKey_seats s n)
  | clearRefusals r => exact State.perform_conferencesLawful_of_seats hs h rfl (fun s => ownerClearRefusals_seats s r)
  | setDebounce b => exact State.perform_conferencesLawful_of_seats hs h rfl (fun _ => rfl)
  | frameArrival slots => exact State.whenever_conferencesLawful_of_seats (s.takeFrame_seats slots) hs h
  | silenceLimitReached i slots => exact State.whenever_conferencesLawful_of_seats (s.takeFrame_seats slots) hs h
  | watchIntervalExpiry slots => exact State.whenever_conferencesLawful_of_seats (s.takeFrame_seats slots) hs h
  | airExitGuardExpiry i => exact State.whenever_conferencesLawful_of_seats (s.expireGuard_seats i) hs h
  | holdExpiry r => exact State.whenever_conferencesLawful_of_seats (s.expireHold_seats r) hs h
  | shortFrame => exact State.whenever_conferencesLawful_of_seats s.startFrame_seats hs h
  | syncLoss => exact State.whenever_conferencesLawful_of_seats s.loseSync_seats hs h
  | keyLineChange n level => exact hs.of_seats (execKeyLineChange_seats s h)
  | keyAcceptance n => exact State.whenever_conferencesLawful_of_seats (s.acceptKey_seats n) hs h
  | recomposeTake => exact State.whenever_conferencesLawful_of_seats s.takeRow_seats hs h
  | recomposeCompletion => exact State.whenever_conferencesLawful_of_seats s.completeRow_seats hs h
  | deviceReset => exact Host.Outcome.next.inj h ▸ State.reset_conferencesLawful.of_seats s.enterReset_seats
  | deviceResetEnd =>
    change (if s.inReset then .next s.leaveReset else .next s) = Host.Outcome.next t at h
    split at h <;> obtain rfl := Host.Outcome.next.inj h
    · exact hs.of_seats s.leaveReset_seats
    · exact hs
  | frameSyncRisingEdge => exact State.whenever_conferencesLawful_of_seats s.startFrame_seats hs h

end Sys2Proof.Machine

namespace Sys2Proof.Proofs

open Machine

/-- Settles O56: a step is a bit period, which touches the frame assembly alone, or a command, by `exec_keeps_conferencesLawful`. -/
theorem everyStepKeepsTheConferenceLaw : Obligations.EveryStepKeepsTheConferenceLaw := by
  intro s t hs h
  unfold step at h
  split at h
  · obtain rfl := Host.Outcome.next.inj h
    rw [State.bitPeriod_frame]
    exact { hs with }
  · next c rest _ => exact exec_keeps_conferencesLawful c (s := { s with pending := rest }) { hs with } h

end Sys2Proof.Proofs
end

section
/-! ## The commands of the conferences -/

namespace Sys2Proof.Machine

open Claims

/-- A join: the source out of its prior conference, at the end of the new one's list (R47, R48). -/
theorem State.enterConference_eq (s : State) (i : SourceId) (k : ConferenceId) : s.enterConference i k = { s with
    sources := s.sources.set i { s.sources[i] with conference := some k }
    conferences := (without s i).set k { (without s i)[k] with members := (without s i)[k].members ++ [i] } } := by
  unfold State.enterConference without
  cases s.sources[i].conference <;> rfl

/-- The rows that a join marks (R45, R47, R48). -/
theorem State.enterConference_markRows (s : State) (i : SourceId) (k : ConferenceId) :
    ((s.enterConference i k).markRows fun ρ => s.ownConferenceRow i ρ || (s.enterConference i k).memberRow k ρ) = afterJoin s i k := by
  have hlist : (s.enterConference i k).conferences[k].members = (without s i)[k].members ++ [i] := by
    rw [State.enterConference_eq]
    simp
  have hrows : attachedIn (s.enterConference i k) = attachedIn s := by
    rw [State.enterConference_eq]
    rfl
  rw [State.markRows_eq, State.ownConferenceRow_eq, State.memberRow_eq, hlist, hrows, State.enterConference_eq]
  rfl

/-- JOIN of a source and a conference that its arguments name: its checks in their order (R46 to R48). -/
theorem ownerJoin_of_names {s : State} {b kb : Byte} {i : SourceId} {k : ConferenceId} (hi : Names b i) (hk : Names kb k) :
    ownerJoin b kb s =
      if ¬ Joinable s.sources[i] then (s, refuse .invalid)
      else if Remote s.sources[i] ∧ (s.sources[i].stage = .vacant ∨ s.sources[i].stage = .air) then (s, refuse .state)
      else if i ∈ s.conferences[k].members then (s, ok [byteOf k.val])
      else if 8 ≤ s.conferences[k].members.length then (s, refuse .full)
      else (afterJoin s i k, ok [indexByte s.sources[i].conference]) := by
  simp only [ownerJoin, indexArg_eq_some.mpr hi, indexArg_eq_some.mpr hk, Kind.mayJoin_iff, Kind.hasStage_iff,
    List.contains_iff_mem, State.enterConference_markRows]

theorem ownerJoin_out_of_range {s : State} {b kb : Byte} (h : 32 ≤ b.toNat ∨ 4 ≤ kb.toNat) : ownerJoin b kb s = (s, refuse .invalid) := by
  unfold ownerJoin
  split
  · next hi hk =>
    obtain h | h := h
    · rw [indexArg_eq_none.mpr h] at hi
      cases hi
    · rw [indexArg_eq_none.mpr h] at hk
      cases hk
  · rfl

/-- A member taken out (R45, R49). -/
theorem State.unlist_markRows {s : State} {i : SourceId} {k : ConferenceId} (h : s.sources[i].conference = some k) :
    ((s.unlist k i).setMembership i none).markRows (s.memberRow k) = afterLeave s i := by
  rw [State.markRows_eq, State.memberRow_eq]
  unfold afterLeave without fellows
  rw [h]
  rfl

end Sys2Proof.Machine

namespace Sys2Proof.Proofs

open Machine Claims

/-- Settles O28: the checks in their order, then the member that is one already, the full list, and the join (R46 to R48). -/
theorem joinAppendsOrMovesAMember : Obligations.JoinAppendsOrMovesAMember := by
  intro s b kb
  refine ⟨fun h => completes_of_owner rfl rfl (ownerJoin_out_of_range h), fun i k hi hk => ?_⟩
  have howner := ownerJoin_of_names (s := s) hi hk
  refine ⟨fun hkind => completes_of_owner rfl rfl ?_, fun hkind habsent => completes_of_owner rfl rfl ?_, fun hkind habsent =>
    ⟨fun hmember => completes_of_owner rfl rfl ?_, fun hmember hfull => completes_of_owner rfl rfl ?_,
      fun hmember hroom => completes_of_owner rfl rfl ?_⟩⟩
  · rw [howner, if_pos hkind]
  · rw [howner, if_neg (not_not.mpr hkind), if_pos habsent]
  · rw [howner, if_neg (not_not.mpr hkind), if_neg habsent, if_pos hmember]
  · rw [howner, if_neg (not_not.mpr hkind), if_neg habsent, if_neg hmember, if_pos hfull]
  · rw [howner, if_neg (not_not.mpr hkind), if_neg habsent, if_neg hmember, if_neg (Nat.not_le.mpr hroom)]

/-- Settles O29: by whether the argument names a source, or a conference, and whether the source is a member (R45, R49, R50). -/
theorem leaveAndSetConferenceMarkTheMembersRows : Obligations.LeaveAndSetConferenceMarkTheMembersRows := by
  intro s b g bed
  refine ⟨fun h => completes_of_owner rfl rfl ?_, fun i hi => ⟨fun hn => completes_of_owner rfl rfl ?_, fun k hk =>
    completes_of_owner rfl rfl ?_⟩, fun h => completes_of_owner rfl rfl ?_, fun k hk => completes_of_owner rfl rfl ?_⟩
  · rw [ownerLeave, indexArg_eq_none.mpr h]
  · simp only [ownerLeave, indexArg_eq_some.mpr hi, hn]
  · simp only [ownerLeave, indexArg_eq_some.mpr hi, hk, State.unlist_markRows hk]
  · rw [ownerSetConference, indexArg_eq_none.mpr h]
  · simp only [ownerSetConference, indexArg_eq_some.mpr hk, State.markRows_eq, State.memberRow_eq]
    rfl

end Sys2Proof.Proofs
end

section
/-! ## The Talkback Arbiter on one return

What the choice of a pending request gives (R62, R69), the decision of a request case by case (R59 to R63), and the law of R57 under
each operation on an arbitration record. -/

namespace Sys2Proof.Machine

open Claims

/-! ### The choice of a request -/

/-- The relation of a choice by priority: what a request beats, it beats along with all that the beaten one does not lose to. -/
structure Ranks (beats : Request → Request → Bool) : Prop where
  wins : ∀ {b e x}, beats b e = true → beats b x = false → beats e x = false
  loses : ∀ {e b x}, beats e b = false → beats b x = false → beats e x = false

/-- The picked request beats every earlier one and is beaten by no later one (R62, R69). -/
theorem pick_best {beats : Request → Request → Bool} (hr : Ranks beats) {l rest : List Request} {b : Request}
    (h : pick beats l = some (b, rest)) :
    ∃ n, l[n]? = some b ∧ rest = l.eraseIdx n ∧
      ∀ m e, l[m]? = some e → (m < n → beats b e = true) ∧ (n < m → beats e b = false) := by
  induction l generalizing b rest with
  | nil => simp [pick] at h
  | cons x xs ih =>
    simp only [pick] at h
    split at h
    · next hn =>
      obtain ⟨rfl, rfl⟩ : x = b ∧ [] = rest := by simpa using h
      obtain rfl := pick_eq_none.mp hn
      refine ⟨0, rfl, rfl, fun m e hm => ⟨fun h => absurd h (Nat.not_lt_zero m), fun h => ?_⟩⟩
      rw [List.getElem?_eq_none (Nat.succ_le_of_lt h)] at hm
      cases hm
    · next c r hp =>
      obtain ⟨n, hn, hrest, hbest⟩ := ih hp
      split at h
      · next hc =>
        obtain ⟨rfl, rfl⟩ : c = b ∧ x :: r = rest := by simpa using h
        refine ⟨n + 1, by simpa using hn, by simp [hrest], fun m e hm => ?_⟩
        cases m with
        | zero =>
          obtain rfl : x = e := by simpa using hm
          exact ⟨fun _ => hc, fun h => absurd h (Nat.not_lt_zero _)⟩
        | succ m => simpa using hbest m e (by simpa using hm)
      · next hc =>
        have hc : beats c x = false := by simpa using hc
        obtain ⟨rfl, rfl⟩ : x = b ∧ xs = rest := by simpa using h
        refine ⟨0, rfl, rfl, fun m e hm => ⟨fun h => absurd h (Nat.not_lt_zero m), fun hpos => ?_⟩⟩
        obtain ⟨m, rfl⟩ := Nat.exists_eq_succ_of_ne_zero hpos.ne'
        have hm : xs[m]? = some e := by simpa using hm
        obtain hlt | rfl | hgt := Nat.lt_trichotomy m n
        · exact hr.wins ((hbest m e hm).1 hlt) hc
        · exact Option.some.inj (hn.symm.trans hm) ▸ hc
        · exact hr.loses ((hbest m e hm).2 hgt) hc

/-- A list that is not empty has a picked request. -/
theorem exists_pick {beats : Request → Request → Bool} {l : List Request} (h : l ≠ []) : ∃ b rest, pick beats l = some (b, rest) := by
  cases hp : pick beats l with
  | none => exact absurd (pick_eq_none.mp hp) h
  | some x => exact ⟨x.1, x.2, rfl⟩

theorem ranks_next : Ranks fun b x => decide (x.priority < b.priority) := by
  constructor <;> intro _ _ _ h k <;> simp only [decide_eq_true_eq, decide_eq_false_iff_not] at h k ⊢ <;> omega

theorem ranks_discard : Ranks fun b x => decide (b.priority ≤ x.priority) := by
  constructor <;> intro _ _ _ h k <;> simp only [decide_eq_true_eq, decide_eq_false_iff_not] at h k ⊢ <;> omega

/-- The promoted request is the earliest of highest priority (R69, R71). -/
theorem promoted_of_ne_nil {l : List Request} (h : l ≠ []) : ∃ n q, l[n]? = some q ∧
    (∀ m e, l[m]? = some e → e.priority ≤ q.priority ∧ (m < n → e.priority < q.priority)) ∧
    promoted l = { active := some (fresh q), waiting := l.eraseIdx n } := by
  obtain ⟨q, rest, hp⟩ := exists_pick (beats := fun b x => decide (x.priority < b.priority)) h
  obtain ⟨n, hn, rfl, hbest⟩ := pick_best ranks_next hp
  refine ⟨n, q, hn, fun m e hm => ?_, ?_⟩
  · obtain ⟨hbefore, hafter⟩ := hbest m e hm
    simp only [decide_eq_true_eq, decide_eq_false_iff_not] at hbefore hafter
    refine ⟨?_, hbefore⟩
    obtain hlt | rfl | hgt := Nat.lt_trichotomy m n
    · exact (hbefore hlt).le
    · exact (Option.some.inj (hn.symm.trans hm)).symm ▸ le_rfl
    · exact not_lt.mp (hafter hgt)
  · have hnext : pickNext l = some (q, l.eraseIdx n) := hp
    simp only [promoted, hnext]
    rfl

theorem promoted_nil : promoted [] = { active := none, waiting := [] } := rfl

/-- The discarded request is the latest of lowest priority (R62). -/
theorem pickDiscard_of_ne_nil {l : List Request} (h : l ≠ []) : ∃ n d, l[n]? = some d ∧
    (∀ m e, l[m]? = some e → d.priority ≤ e.priority ∧ (n < m → d.priority < e.priority)) ∧
    pickDiscard l = some (d, l.eraseIdx n) := by
  obtain ⟨d, rest, hp⟩ := exists_pick (beats := fun b x => decide (b.priority ≤ x.priority)) h
  obtain ⟨n, hn, rfl, hbest⟩ := pick_best ranks_discard hp
  refine ⟨n, d, hn, fun m e hm => ?_, hp⟩
  obtain ⟨hbefore, hafter⟩ := hbest m e hm
  simp only [decide_eq_true_eq, decide_eq_false_iff_not, not_le] at hbefore hafter
  refine ⟨?_, hafter⟩
  obtain hlt | rfl | hgt := Nat.lt_trichotomy m n
  · exact hbefore hlt
  · exact (Option.some.inj (hn.symm.trans hm)).symm ▸ le_rfl
  · exact (hafter hgt).le

/-! ### The decision of a request -/

theorem Arbitration.holds_iff {a : Arbitration} {o : SourceId} : a.holds o = true ↔ a.HasRequestOf o := by
  simp [Arbitration.holds, Arbitration.HasRequestOf, Option.any_eq_true]

theorem preemptedList_of_room {old : Request} {waiting : List Request} (h : waiting.length < 3) :
    preemptedList old waiting = (old :: waiting, none) :=
  if_pos (Nat.succ_le_of_lt h)

theorem preemptedList_of_full {old : Request} {waiting : List Request} (h : 3 ≤ waiting.length) :
    ∃ n d, (old :: waiting)[n]? = some d ∧
      (∀ m e, (old :: waiting)[m]? = some e → d.priority ≤ e.priority ∧ (n < m → d.priority < e.priority)) ∧
      preemptedList old waiting = ((old :: waiting).eraseIdx n, some d.originator) := by
  obtain ⟨n, d, hn, hlow, hp⟩ := pickDiscard_of_ne_nil (List.cons_ne_nil old waiting)
  have hlong : ¬ (old :: waiting).length ≤ Config.maxWaiting := Nat.not_le.mpr (Nat.lt_succ_of_le h)
  refine ⟨n, d, hn, hlow, ?_⟩
  simp only [preemptedList, if_neg hlong, hp]

section Decide

variable {a : Arbitration} {q : Request} {x : Active}

theorem Arbitration.decide_gone : a.decide true q = (.refused .noListener, a) := rfl

theorem Arbitration.decide_held (h : a.HasRequestOf q.originator) : a.decide false q = (.refused .duplicate, a) := by
  simp only [Arbitration.decide, Bool.false_eq_true, if_false, if_pos (Arbitration.holds_iff.mpr h)]

theorem Arbitration.decide_idle (h : ¬ a.HasRequestOf q.originator) (ha : a.active = none) :
    a.decide false q = (.active none none, { a with active := some (fresh q) }) := by
  simp only [Arbitration.decide, Bool.false_eq_true, if_false, if_neg (mt Arbitration.holds_iff.mp h), ha]
  rfl

theorem Arbitration.decide_preempts (h : ¬ a.HasRequestOf q.originator) (ha : a.active = some x)
    (hp : x.request.priority < q.priority) : a.decide false q =
      (.active (some x.request.originator) (preemptedList x.request a.waiting).2,
        { active := some (fresh q), waiting := (preemptedList x.request a.waiting).1 }) := by
  simp only [Arbitration.decide, Bool.false_eq_true, if_false, if_neg (mt Arbitration.holds_iff.mp h), ha, if_pos hp]
  rfl

theorem Arbitration.decide_queues (h : ¬ a.HasRequestOf q.originator) (ha : a.active = some x)
    (hp : q.priority ≤ x.request.priority) (hl : a.waiting.length < 3) :
    a.decide false q = (.queued (a.waiting.length + 1), { a with waiting := a.waiting ++ [q] }) := by
  have hl : a.waiting.length < Config.maxWaiting := hl
  simp only [Arbitration.decide, Bool.false_eq_true, if_false, if_neg (mt Arbitration.holds_iff.mp h), ha, if_neg (not_lt.mpr hp),
    if_pos hl]

theorem Arbitration.decide_full (h : ¬ a.HasRequestOf q.originator) (ha : a.active = some x)
    (hp : q.priority ≤ x.request.priority) (hl : 3 ≤ a.waiting.length) : a.decide false q = (.refused .full, a) := by
  have hl : ¬ a.waiting.length < Config.maxWaiting := Nat.not_lt.mpr hl
  simp only [Arbitration.decide, Bool.false_eq_true, if_false, if_neg (mt Arbitration.holds_iff.mp h), ha, if_neg (not_lt.mpr hp),
    if_neg hl]

end Decide

/-! ### The law of R57 under each operation -/

/-- The next request promoted from requests of different originators, at most three (R57, R69). -/
theorem promoted_lawful {l : List Request} (hl : l.length ≤ 3) (hd : (l.map Request.originator).Nodup) : (promoted l).Lawful := by
  by_cases h : l = []
  · subst h
    constructor <;> simp [promoted_nil]
  · obtain ⟨n, q, hn, hbest, hp⟩ := promoted_of_ne_nil h
    obtain ⟨hlt, hq⟩ := List.getElem?_eq_some_iff.mp hn
    have hmap : (l.eraseIdx n).map Request.originator = (l.map Request.originator).eraseIdx n :=
      (List.eraseIdx_map _ l n).symm
    have hsub := (l.map Request.originator).eraseIdx_sublist n
    rw [hp]
    refine ⟨(l.eraseIdx_sublist n).length_le.trans hl, by rw [hmap]; exact hd.sublist hsub, fun x hx => ?_, fun hx => (by cases hx),
      fun x hx e he => ?_⟩
    · obtain rfl := Option.some.inj hx
      have hlast : n < (l.map Request.originator).length := by simpa using hlt
      have hown : q.originator = (l.map Request.originator)[n] := by simp [hq]
      show q.originator ∉ (l.eraseIdx n).map Request.originator
      rw [hmap, hown, ← hd.erase_getElem n hlast]
      exact hd.not_mem_erase
    · obtain rfl := Option.some.inj hx
      obtain ⟨m, hm⟩ := List.mem_iff_getElem?.mp (List.mem_of_mem_eraseIdx he)
      exact (hbest m e hm).1

theorem Arbitration.empty_lawful : Arbitration.Lawful { active := none, waiting := [] } := by constructor <;> simp

/-- An active request of an originator that does not wait, over a lawful list of no higher priority. -/
theorem Arbitration.active_lawful {x : Active} {l : List Request} (hl : l.length ≤ 3) (hd : (l.map Request.originator).Nodup)
    (ho : x.request.originator ∉ l.map Request.originator) (hp : ∀ q ∈ l, q.priority ≤ x.request.priority) :
    Arbitration.Lawful { active := some x, waiting := l } where
  short := hl
  distinct := hd
  activeApart _ hx := Option.some.inj hx ▸ ho
  backed h := by cases h
  outranked _ hx := Option.some.inj hx ▸ hp

/-- A part of the pending list, the active request as it is (R68). -/
theorem Arbitration.Lawful.sublist {a : Arbitration} (h : a.Lawful) {l : List Request} (hs : l.Sublist a.waiting) :
    Arbitration.Lawful { a with waiting := l } where
  short := hs.length_le.trans h.short
  distinct := h.distinct.sublist (hs.map _)
  activeApart x hx hm := h.activeApart x hx ((hs.map _).subset hm)
  backed hn := List.eq_nil_of_sublist_nil (h.backed hn ▸ hs)
  outranked x hx q hq := h.outranked x hx q (hs.subset hq)

theorem Arbitration.not_hasRequestOf {a : Arbitration} {o : SourceId} : ¬ a.HasRequestOf o ↔
    (∀ x, a.active = some x → x.request.originator ≠ o) ∧ o ∉ a.waiting.map Request.originator := by
  simp [Arbitration.HasRequestOf]

/-- A decision keeps the law, by its cases (R59 to R63). -/
theorem Arbitration.Lawful.decide {a : Arbitration} (h : a.Lawful) (gone : Bool) (q : Request) : (a.decide gone q).2.Lawful := by
  cases gone with
  | true => exact h
  | false =>
    by_cases ho : a.HasRequestOf q.originator
    · rw [Arbitration.decide_held ho]
      exact h
    obtain ⟨hactive, hwaiting⟩ := Arbitration.not_hasRequestOf.mp ho
    cases hx : a.active with
    | none =>
      rw [Arbitration.decide_idle ho hx, h.backed hx]
      exact Arbitration.active_lawful (Nat.zero_le _) List.nodup_nil List.not_mem_nil fun _ hq => absurd hq List.not_mem_nil
    | some x =>
      have hpreempted : ((x.request :: a.waiting).map Request.originator).Nodup := by
        rw [List.map_cons, List.nodup_cons]
        exact ⟨h.activeApart x hx, h.distinct⟩
      have hapart : q.originator ∉ (x.request :: a.waiting).map Request.originator := by
        rw [List.map_cons, List.mem_cons, not_or]
        exact ⟨(hactive x hx).symm, hwaiting⟩
      by_cases hp : x.request.priority < q.priority
      · have hlow : ∀ e ∈ x.request :: a.waiting, e.priority ≤ q.priority := fun e he => by
          obtain rfl | he := List.mem_cons.mp he
          · exact hp.le
          · exact (h.outranked x hx e he).trans hp.le
        have hlist : ∀ l : List Request, l.Sublist (x.request :: a.waiting) → l.length ≤ 3 →
            Arbitration.Lawful { active := some (fresh q), waiting := l } := fun l hs hl =>
          Arbitration.active_lawful hl (hpreempted.sublist (hs.map _)) (fun hm => hapart ((hs.map _).subset hm))
            fun e he => hlow e (hs.subset he)
        rw [Arbitration.decide_preempts ho hx hp]
        obtain hl | hl := Nat.lt_or_ge a.waiting.length 3
        · rw [preemptedList_of_room hl]
          exact hlist _ (.refl _) hl
        · obtain ⟨n, d, hn, _, hd⟩ := preemptedList_of_full (old := x.request) hl
          rw [hd]
          refine hlist _ (List.eraseIdx_sublist ..) ?_
          have hlen := List.length_eraseIdx_of_lt (List.getElem?_eq_some_iff.mp hn).1
          have hshort := h.short
          simp only [List.length_cons] at hlen
          dsimp only
          omega
      · have hp := not_lt.mp hp
        obtain hl | hl := Nat.lt_or_ge a.waiting.length 3
        · rw [Arbitration.decide_queues ho hx hp hl, hx]
          refine Arbitration.active_lawful (by simpa using hl) ?_ ?_ fun e he => ?_
          · rw [List.map_append, List.nodup_append]
            exact ⟨h.distinct, List.nodup_singleton _, fun i hi j hj hij => hwaiting (List.mem_singleton.mp hj ▸ hij ▸ hi)⟩
          · rw [List.map_append, List.mem_append, not_or]
            exact ⟨h.activeApart x hx, fun hm => hactive x hx (List.mem_singleton.mp hm)⟩
          · obtain he | he := List.mem_append.mp he
            · exact h.outranked x hx e he
            · exact List.mem_singleton.mp he ▸ hp
        · rw [Arbitration.decide_full ho hx hp hl]
          exact h

/-- A release keeps the law: what is left of the pending list is a part of it (R67 to R69). -/
theorem Arbitration.Lawful.release {a b : Arbitration} {p : Request → Bool} {rel : Released} (h : a.Lawful)
    (hr : a.release p = some (rel, b)) : b.Lawful := by
  have hsub : (a.waiting.filter fun q => !p q).Sublist a.waiting := List.filter_sublist
  unfold Arbitration.release at hr
  dsimp only at hr
  split at hr
  · obtain ⟨_, rfl⟩ := Prod.mk.inj (Option.some.inj hr)
    exact promoted_lawful (hsub.length_le.trans h.short) (h.distinct.sublist (hsub.map _))
  · split at hr
    · cases hr
    · obtain ⟨_, rfl⟩ := Prod.mk.inj (Option.some.inj hr)
      exact h.sublist hsub

theorem Arbitration.Lawful.tick {a : Arbitration} (h : a.Lawful) : a.tick.Lawful := by
  have hrequest : ∀ x, a.tick.active = some x → ∃ y, a.active = some y ∧ y.request = x.request := fun x hx => by
    obtain ⟨y, hy, rfl⟩ := Option.map_eq_some_iff.mp hx
    exact ⟨y, hy, rfl⟩
  exact
    { short := h.short
      distinct := h.distinct
      activeApart := fun x hx => by
        obtain ⟨y, hy, hr⟩ := hrequest x hx
        exact hr ▸ h.activeApart y hy
      backed := fun hn => h.backed (Option.map_eq_none_iff.mp hn)
      outranked := fun x hx => by
        obtain ⟨y, hy, hr⟩ := hrequest x hx
        exact hr ▸ h.outranked y hy }

end Sys2Proof.Machine

namespace Sys2Proof.Proofs

open Machine Claims

/-- Settles O34: one equation of the decision per case of R59. -/
theorem requestsAreDecidedByTheFirstCase : Obligations.RequestsAreDecidedByTheFirstCase := by
  refine fun a q => ⟨Arbitration.decide_gone, Arbitration.decide_held, fun hn => ⟨Arbitration.decide_idle hn, fun x hx =>
    ⟨fun hp => ⟨fun hl => ?_, fun hl => ?_⟩, fun hp => ⟨Arbitration.decide_queues hn hx hp, Arbitration.decide_full hn hx hp⟩⟩⟩⟩
  · rw [Arbitration.decide_preempts hn hx hp, preemptedList_of_room hl]
  · obtain ⟨n, d, hd, hlow, hlist⟩ := preemptedList_of_full (old := x.request) hl
    exact ⟨n, d, hd, hlow, by rw [Arbitration.decide_preempts hn hx hp, hlist]⟩

/-- Settles O35. -/
theorem promotionTakesTheEarliestOfHighestPriority : Obligations.PromotionTakesTheEarliestOfHighestPriority :=
  ⟨promoted_nil, fun _ => promoted_of_ne_nil, by decide⟩

end Sys2Proof.Proofs
end

section
/-! ## The laws of the records

R57, the ranges, the keys, the recompose queue and the slots: `State.KeepsRecords` says that each of these laws passes from one state to
the next, and `State.OffLanes` that the lanes, the sync state, the held samples and the current values stay besides. The writers of the
tables have one lemma each, and an operation is the chain of its writers. -/

namespace Sys2Proof.Machine

open Claims

/-! ### The laws record by record -/

/-- The ranges of a source record (R20, R143). -/
structure Source.InRange (x : Source) : Prop where
  guards : ∀ n, x.guard = some n → n ≤ 1920000
  silence : x.silenceCount ≤ 2880000

/-- The ranges of a return record (R23, R65). -/
structure Return.InRange (x : Return) : Prop where
  ceiling : x.ceiling ≤ 8388607
  refusals : x.refusals ≤ 255

/-- The range of a hold timer (R70). -/
def Arbitration.InRange (a : Arbitration) : Prop := ∀ x, a.active = some x → x.remaining ≤ 12288000

/-- The range of a step (R100, R131). -/
def Cell.InRange (c : Cell) : Prop := 1 ≤ c.step ∧ c.step ≤ 4096

/-- The ranges of a clip record (R150). -/
def Clip.InRange (c : Clip) : Prop := c.count ≤ 65535 ∧ c.captured ≤ 65535

/-- The law of one key (R89 to R92, R97). -/
structure Key.Lawful (inReset : Bool) (k : Key) : Prop where
  idle : inReset = false → (k.debounce = .idle ↔ k.line = k.accepted)
  waits : ∀ left, k.debounce = .waiting left → 1 ≤ left ∧ left ≤ 32
  counted : k.pressCounted = true → k.binding ≠ none

/-- The law of one port's slot (R160, R161, R164). -/
structure PortState.Lawful (p : Port) (q : PortState) : Prop where
  clear : q.slot = .empty → q.overrun = false
  checked : ∀ code params, q.slot = .working code params →
    portCheck p (code :: BitVec.ofNat 8 params.length :: params) = .passed code params

theorem State.slotsLawful_iff {s : State} : s.SlotsLawful ↔ ∀ p, (s.port p).Lawful p :=
  ⟨fun h p => ⟨(h p).1, (h p).2⟩, fun h p => ⟨(h p).clear, (h p).checked⟩⟩

theorem State.keysLawful_iff {s : State} : s.KeysLawful ↔ ∀ n : KeyId, s.keys[n].Lawful s.inReset :=
  ⟨fun h n => ⟨fun hr => h.idle hr n, h.waits n, h.counted n⟩,
    fun h => ⟨fun hr n => (h n).idle hr, fun n => (h n).waits, fun n => (h n).counted⟩⟩

section Ranges

variable {s : State} (h : s.RangesLawful)
include h

theorem State.RangesLawful.source (i : SourceId) : s.sources[i].InRange := ⟨h.guards i, h.silence i⟩

theorem State.RangesLawful.ret (r : ReturnId) : s.returns[r].InRange := ⟨h.ceilings r, h.refusals r⟩

theorem State.RangesLawful.hold (r : ReturnId) : s.arbiter[r].InRange := h.holds r

end Ranges

/-! ### Steps that keep the laws of the records -/

/-- Every law of the records passes from the one state to the other, each from itself; that of the keys with the ranges. -/
structure State.KeepsRecords (s t : State) : Prop where
  arbiter : s.ArbiterLawful → t.ArbiterLawful
  ranges : s.RangesLawful → t.RangesLawful
  keys : s.RangesLawful → s.KeysLawful → t.KeysLawful
  queue : s.QueueLawful → t.QueueLawful
  slots : s.SlotsLawful → t.SlotsLawful

/-- What the laws of sync and lanes speak of (R129, R133, R135, R136). -/
@[ext] structure Audio where
  sync : SyncState
  gap : Option Nat
  held : Vector Sample 32
  current : Row → SourceId → Coeff
  assembly : Assembly
  outFrame : Option (Vector SlotWord 32)

/-- The audio of a state. -/
def State.audio (s : State) : Audio where
  sync := s.sync
  gap := s.gap
  held := s.held
  current ρ i := (s.row ρ)[i].current
  assembly := s.assembly
  outFrame := s.outFrame

/-- The laws of the records are kept, and the audio stays. -/
structure State.OffLanes (s t : State) : Prop extends s.KeepsRecords t where
  audio : t.audio = s.audio

/-- Every law that EveryStepKeepsTheRecordLaws and EveryStepKeepsTheArbiterLaw speak of is kept. -/
structure State.KeepsLaws (s t : State) : Prop extends s.KeepsRecords t where
  sync : s.SyncLawful → t.SyncLawful
  lanes : s.LanesLawful → t.LanesLawful

theorem State.SyncLawful.of_audio {s t : State} (h : t.audio = s.audio) (hs : s.SyncLawful) : t.SyncLawful := by
  obtain ⟨hsync, hgap, hheld, hcurrent, _, _⟩ := Audio.mk.inj h
  have hcell : ∀ (ρ : Row) (i : SourceId), (t.row ρ)[i].current = (s.row ρ)[i].current := fun ρ i => congrFun (congrFun hcurrent ρ) i
  exact
    { gap := by rw [hgap, hsync]; exact hs.gap
      quiet := fun hl => by
        obtain ⟨hzero, hquiet⟩ := hs.quiet (hsync ▸ hl)
        exact ⟨fun j => by rw [hheld]; exact hzero j, fun ρ i => by rw [hcell]; exact hquiet ρ i⟩ }

theorem State.LanesLawful.of_audio {s t : State} (h : t.audio = s.audio) (hs : s.LanesLawful) : t.LanesLawful := by
  obtain ⟨_, _, _, _, hassembly, hout⟩ := Audio.mk.inj h
  exact
    { count := fun n hn => hs.count n (hassembly ▸ hn)
      output := by rw [hout, hassembly]; exact hs.output }

theorem State.OffLanes.keepsLaws {s t : State} (h : s.OffLanes t) : s.KeepsLaws t :=
  { h.toKeepsRecords with sync := .of_audio h.audio, lanes := .of_audio h.audio }

theorem State.KeepsRecords.trans {s t u : State} (h : s.KeepsRecords t) (k : t.KeepsRecords u) : s.KeepsRecords u where
  arbiter := k.arbiter ∘ h.arbiter
  ranges := k.ranges ∘ h.ranges
  keys hr hk := k.keys (h.ranges hr) (h.keys hr hk)
  queue := k.queue ∘ h.queue
  slots := k.slots ∘ h.slots

theorem State.OffLanes.refl (s : State) : s.OffLanes s := ⟨⟨id, id, fun _ => id, id, id⟩, rfl⟩

theorem State.OffLanes.trans {s t u : State} (h : s.OffLanes t) (k : t.OffLanes u) : s.OffLanes u :=
  ⟨h.toKeepsRecords.trans k.toKeepsRecords, k.audio.trans h.audio⟩

theorem State.OffLanes.ite {s t u : State} {c : Prop} [Decidable c] (ht : s.OffLanes t) (hu : s.OffLanes u) :
    s.OffLanes (if c then t else u) := by
  split <;> assumption

theorem State.foldl_offLanes {β : Type} {f : State → β → State} (h : ∀ (t : State) b, t.OffLanes (f t b)) (l : List β) (s : State) :
    s.OffLanes (l.foldl f s) :=
  foldl_keeps (fun t => s.OffLanes t) f (fun t b ht => ht.trans (h t b)) l s (.refl s)

end Sys2Proof.Machine

namespace Sys2Proof.Machine

open Claims

/-! ### The writers of the tables -/

section Writers

variable (s : State)

/-- The fields that none of the laws speaks of. -/
theorem State.unruled_offLanes (cs : Vector Conference 4) (feed : Option SourceId) (monitor : Option ReturnId) (flight : Option InFlight)
    (waiting : List Instr) : s.OffLanes { s with
      conferences := cs, airFeed := feed, monitor := monitor, inFlight := flight, pending := waiting } where
  arbiter := id
  ranges h := { h with }
  keys _ h := { h with }
  queue := id
  slots := id
  audio := rfl

theorem State.withSources_offLanes (v : Vector Source 32) (h : s.RangesLawful → ∀ i : SourceId, v[i].InRange) :
    s.OffLanes { s with sources := v } where
  arbiter := id
  ranges hs := { hs with guards := fun i => (h hs i).guards, silence := fun i => (h hs i).silence }
  keys _ h := { h with }
  queue := id
  slots := id
  audio := rfl

theorem State.setSource_offLanes (i : SourceId) {x : Source} (h : s.RangesLawful → x.InRange) : s.OffLanes (s.setSource i x) :=
  s.withSources_offLanes _ fun hs j => by
    have hread := s.setSource_read i j x
    unfold State.setSource at hread
    rw [hread]
    split
    · exact h hs
    · exact hs.source j

theorem State.withReturns_offLanes (v : Vector Return 24) (h : s.RangesLawful → ∀ r : ReturnId, v[r].InRange) :
    s.OffLanes { s with returns := v } where
  arbiter := id
  ranges hs := { hs with ceilings := fun r => (h hs r).ceiling, refusals := fun r => (h hs r).refusals }
  keys _ h := { h with }
  queue := id
  slots := id
  audio := rfl

theorem State.setReturn_offLanes (r : ReturnId) {x : Return} (h : s.RangesLawful → x.InRange) : s.OffLanes (s.setReturn r x) :=
  s.withReturns_offLanes _ fun hs q => by
    have hread := s.setReturn_read r q x
    unfold State.setReturn at hread
    rw [hread]
    split
    · exact h hs
    · exact hs.ret q

theorem State.withArbiter_offLanes (v : Vector Arbitration 24) (hl : s.ArbiterLawful → ∀ r : ReturnId, v[r].Lawful)
    (hr : s.RangesLawful → ∀ r : ReturnId, v[r].InRange) : s.OffLanes { s with arbiter := v } where
  arbiter := hl
  ranges hs := { hs with holds := hr hs }
  keys _ h := { h with }
  queue := id
  slots := id
  audio := rfl

theorem State.setArbitration_offLanes (r : ReturnId) {a : Arbitration} (hl : s.arbiter[r].Lawful → a.Lawful)
    (hr : s.arbiter[r].InRange → a.InRange) : s.OffLanes (s.setArbitration r a) := by
  have hread : ∀ (P : Arbitration → Prop), (P s.arbiter[r] → P a) → (∀ q : ReturnId, P s.arbiter[q]) →
      ∀ q : ReturnId, P (s.setArbitration r a).arbiter[q] := fun P ha hs q => by
    rw [State.setArbitration_read]
    split
    · exact ha (hs r)
    · exact hs q
  exact s.withArbiter_offLanes _ (hread Arbitration.Lawful hl) fun hs => hread Arbitration.InRange hr hs.hold

theorem State.withKeys_offLanes (v : Vector Key 8) (h : s.RangesLawful → s.KeysLawful → ∀ n : KeyId, v[n].Lawful s.inReset) :
    s.OffLanes { s with keys := v } where
  arbiter := id
  ranges h := { h with }
  keys hr hk := State.keysLawful_iff.mpr (h hr hk)
  queue := id
  slots := id
  audio := rfl

theorem State.setKey_offLanes (n : KeyId) {k : Key} (h : s.RangesLawful → s.keys[n].Lawful s.inReset → k.Lawful s.inReset) :
    s.OffLanes (s.setKey n k) :=
  s.withKeys_offLanes _ fun hr hk m => by
    have hread := s.setKey_read n m k
    unfold State.setKey at hread
    rw [hread]
    split
    · exact h hr (State.keysLawful_iff.mp hk n)
    · exact State.keysLawful_iff.mp hk m

theorem State.withClips_offLanes (v : Vector Clip 24) (h : s.RangesLawful → ∀ r : ReturnId, v[r].InRange) :
    s.OffLanes { s with clips := v } where
  arbiter := id
  ranges hs := { hs with clips := h hs }
  keys _ h := { h with }
  queue := id
  slots := id
  audio := rfl

theorem State.withQueue_offLanes (q : List QueueEntry) (h : s.QueueLawful → (q.map QueueEntry.row).Nodup) :
    s.OffLanes { s with queue := q } where
  arbiter := id
  ranges h := { h with }
  keys _ h := { h with }
  queue := h
  slots := id
  audio := rfl

/-- A row rewritten with the current values it has. -/
theorem State.setRow_offLanes (ρ : Row) (cs : Vector Cell 32) (hr : s.RangesLawful → ∀ i : SourceId, cs[i].InRange)
    (hc : ∀ i : SourceId, cs[i].current = (s.row ρ)[i].current) : s.OffLanes (s.setRow ρ cs) where
  arbiter := id
  ranges hs := { hs with
    steps := fun σ i => by
      rw [State.setRow_read]
      split
      · exact hr hs i
      · exact hs.steps σ i }
  keys _ h := { h with }
  queue := id
  slots := id
  audio := by
    have hcurrent : (s.setRow ρ cs).audio.current = s.audio.current := by
      funext σ i
      show ((s.setRow ρ cs).row σ)[i].current = (s.row σ)[i].current
      rw [State.setRow_read]
      split
      · next h => exact h ▸ hc i
      · rfl
    exact Audio.ext rfl rfl rfl hcurrent rfl rfl

theorem State.setPort_offLanes (p : Port) {q : PortState} (h : (s.port p).Lawful p → q.Lawful p) : s.OffLanes (s.setPort p q) where
  arbiter := id
  ranges h := { h with }
  keys _ h := { h with }
  queue := id
  slots hs := State.slotsLawful_iff.mpr fun p' => by
    rw [State.setPort_read]
    split
    · next hp => exact hp ▸ h (State.slotsLawful_iff.mp hs p)
    · exact State.slotsLawful_iff.mp hs p'
  audio := rfl

/-- A write of settings, timer and loss mark that keeps the ranges. -/
theorem State.settings_offLanes {s t : State} (ht : t = { s with
      airDelay := t.airDelay, debounceTime := t.debounceTime, programStep := t.programStep, talkStep := t.talkStep
      watchCode := t.watchCode, clipThreshold := t.clipThreshold, silenceThreshold := t.silenceThreshold
      silenceTime := t.silenceTime, watchRemaining := t.watchRemaining, lossMark := t.lossMark })
    (h : s.RangesLawful → t.RangesLawful) : s.OffLanes t where
  arbiter := by rw [ht]; exact id
  ranges := h
  keys _ hk := by rw [ht]; exact { hk with }
  queue := by rw [ht]; exact id
  slots := by rw [ht]; exact id
  audio := by rw [ht]; rfl

end Writers

end Sys2Proof.Machine

namespace Sys2Proof.Machine

open Claims

/-! ### Marks and notices -/

section Operations

variable (s : State)

theorem markQueue_nodup {q : List QueueEntry} (h : (q.map QueueEntry.row).Nodup) (ρ : Row) (talk : Bool) :
    ((markQueue q ρ talk).map QueueEntry.row).Nodup := by
  unfold markQueue
  split
  · have hrow : ∀ e : QueueEntry, (if e.row = ρ then { e with talk := e.talk || talk } else e).row = e.row := fun e => by
      split <;> rfl
    rw [List.map_map, Function.comp_def]
    simpa only [hrow] using h
  · next hq =>
    have hnew : ρ ∉ q.map QueueEntry.row := by simpa using hq
    rw [List.map_append, List.nodup_append]
    refine ⟨h, List.nodup_singleton _, fun σ hσ τ hτ hστ => hnew ?_⟩
    obtain rfl : τ = ρ := List.mem_singleton.mp hτ
    exact hστ ▸ hσ

theorem State.mark_offLanes (ρ : Row) (talk : Bool) : s.OffLanes (s.mark ρ talk) :=
  s.withQueue_offLanes _ fun h => markQueue_nodup h ρ talk

theorem State.markRows_offLanes (p : Row → Bool) : s.OffLanes (s.markRows p) :=
  State.foldl_offLanes (fun t ρ => t.mark_offLanes ρ false) _ s

theorem State.markUnlessEmpty_offLanes {α : Type} (es : List α) (p : Row → Bool) : s.OffLanes (s.markUnlessEmpty es p) :=
  .ite (.refl s) (s.markRows_offLanes p)

/-- A port with its slot and its overrun flag as they are. -/
theorem State.setPort_offLanes_of_slot (p : Port) {q : PortState} (hs : q.slot = (s.port p).slot) (ho : q.overrun = (s.port p).overrun) :
    s.OffLanes (s.setPort p q) :=
  s.setPort_offLanes p fun h => ⟨by rw [hs, ho]; exact h.clear, by rw [hs]; exact h.checked⟩

theorem State.raise_offLanes (k : NoticeKind) (i : Nat) : s.OffLanes (s.raise k i) := s.setPort_offLanes_of_slot _ rfl rfl

/-! ### Sources and conferences -/

/-- A source record with its guard and its silence counter as they are. -/
theorem State.setSource_offLanes_of_counts (i : SourceId) {x : Source} (hg : x.guard = s.sources[i].guard)
    (hc : x.silenceCount = s.sources[i].silenceCount) : s.OffLanes (s.setSource i x) :=
  s.setSource_offLanes i fun h => ⟨by rw [hg]; exact (h.source i).guards, by rw [hc]; exact (h.source i).silence⟩

/-- A source record without a running guard, its silence counter as it is or cleared. -/
theorem State.setSource_offLanes_of_no_guard (i : SourceId) {x : Source} (hg : x.guard = none)
    (hc : x.silenceCount ≤ s.sources[i].silenceCount) : s.OffLanes (s.setSource i x) :=
  s.setSource_offLanes i fun h => ⟨fun n hn => (by rw [hg] at hn; cases hn), hc.trans (h.source i).silence⟩

theorem State.setConference_offLanes (k : ConferenceId) (x : Conference) : s.OffLanes (s.setConference k x) :=
  s.unruled_offLanes _ s.airFeed s.monitor s.inFlight s.pending

theorem State.setMembership_offLanes (i : SourceId) (k : Option ConferenceId) : s.OffLanes (s.setMembership i k) :=
  s.setSource_offLanes_of_counts i rfl rfl

theorem State.unlist_offLanes (k : ConferenceId) (i : SourceId) : s.OffLanes (s.unlist k i) := s.setConference_offLanes k _

theorem State.exitConference_offLanes (i : SourceId) : s.OffLanes (s.exitConference i) := by
  unfold State.exitConference
  split
  · exact .refl s
  · next k _ => exact (s.unlist_offLanes k i).trans ((State.setMembership_offLanes _ i none).trans (State.raise_offLanes _ _ _))

theorem State.enterConference_offLanes (i : SourceId) (k : ConferenceId) : s.OffLanes (s.enterConference i k) := by
  unfold State.enterConference
  dsimp only
  split
  · exact (s.setConference_offLanes k _).trans (State.setMembership_offLanes _ i _)
  · next prior _ =>
    exact (s.unlist_offLanes prior i).trans ((State.setConference_offLanes _ k _).trans (State.setMembership_offLanes _ i _))

/-! ### List commands -/

theorem State.writeFader_offLanes (e : Byte × Coeff) : s.OffLanes (s.writeFader e) := by
  unfold State.writeFader
  split
  · exact .refl s
  · exact s.setSource_offLanes_of_counts _ rfl rfl

theorem State.writeOn_offLanes (e : Byte × Byte) : s.OffLanes (s.writeOn e) := by
  unfold State.writeOn
  split
  · exact s.setSource_offLanes_of_counts _ rfl rfl
  · exact .refl s

theorem clamp_bounds {lo hi n : Nat} (h : lo ≤ hi) : lo ≤ clamp lo hi n ∧ clamp lo hi n ≤ hi := by
  unfold clamp
  omega

theorem State.writeReturn_offLanes (e : ReturnEntry) : s.OffLanes (s.writeReturn e) := by
  unfold State.writeReturn
  split
  · next r _ _ _ => exact s.setReturn_offLanes r fun h => ⟨(clamp_bounds (Nat.zero_le _)).2, (h.ret r).refusals⟩
  · exact .refl s

/-- A return record with its ceiling and its refusal count as they are. -/
theorem State.setReturn_offLanes_of_counts (r : ReturnId) {x : Return} (hc : x.ceiling = s.returns[r].ceiling)
    (hn : x.refusals = s.returns[r].refusals) : s.OffLanes (s.setReturn r x) :=
  s.setReturn_offLanes r fun h => ⟨hc ▸ (h.ret r).ceiling, hn ▸ (h.ret r).refusals⟩

/-! ### The arbiter -/

theorem State.countRefusal_offLanes (r : ReturnId) : s.OffLanes (s.countRefusal r) :=
  s.setReturn_offLanes r fun h => ⟨(h.ret r).ceiling, by
    have hr := (h.ret r).refusals
    dsimp only
    split
    · next hlt => exact hlt
    · exact hr⟩

theorem holdLimit_le (code : Fin 8) : holdLimit code ≤ 12288000 := by revert code; decide

/-- A hold timer at its full limit is in range (R70). -/
theorem Arbitration.inRange_of_fresh {q : Request} {l : List Request} : Arbitration.InRange { active := some q.activate, waiting := l } :=
  fun _ hx => Option.some.inj hx ▸ holdLimit_le q.holdCode

theorem Arbitration.inRange_of_idle {l : List Request} : Arbitration.InRange { active := none, waiting := l } := fun _ hx => by cases hx

theorem promoted_inRange (l : List Request) : (promoted l).InRange := by
  unfold promoted
  split
  · exact Arbitration.inRange_of_idle
  · exact Arbitration.inRange_of_fresh

theorem Arbitration.InRange.decide {a : Arbitration} (h : a.InRange) (gone : Bool) (q : Request) : (a.decide gone q).2.InRange := by
  unfold Arbitration.decide
  split
  · exact h
  · split
    · exact h
    · split
      · exact Arbitration.inRange_of_fresh
      · split
        · exact Arbitration.inRange_of_fresh
        · split <;> exact h

theorem Arbitration.InRange.release {a b : Arbitration} {p : Request → Bool} {rel : Released} (h : a.InRange)
    (hr : a.release p = some (rel, b)) : b.InRange := by
  unfold Arbitration.release at hr
  dsimp only at hr
  split at hr
  · obtain ⟨_, rfl⟩ := Prod.mk.inj (Option.some.inj hr)
    exact promoted_inRange _
  · split at hr
    · cases hr
    · obtain ⟨_, rfl⟩ := Prod.mk.inj (Option.some.inj hr)
      exact h

theorem State.talkOn_offLanes (r : ReturnId) (q : Request) : s.OffLanes (s.talkOn r q).1 := by
  have ha : s.OffLanes (s.setArbitration r (s.arbiter[r].decide (s.listenerVacant r) q).2) :=
    s.setArbitration_offLanes r (fun h => h.decide _ q) fun h => h.decide _ q
  unfold State.talkOn
  dsimp only
  split
  · exact ha.trans (State.mark_offLanes _ _ _)
  · exact ha.trans ((State.mark_offLanes _ _ _).trans (State.raise_offLanes _ _ _))
  · exact ha
  · exact s.countRefusal_offLanes r

theorem State.visit_offLanes (r : ReturnId) (q : Request) : s.OffLanes (s.visit r q).1 := by
  unfold State.visit
  split
  · exact s.talkOn_offLanes r q
  · exact .refl s
  · exact s.countRefusal_offLanes r

theorem State.talkGroup_offLanes (t : TagId) (q : Request) : s.OffLanes (s.talkGroup t q).1 :=
  foldl_keeps (fun d : State × List TalkEntry => s.OffLanes d.1) _
    (fun d r hd => by
      split
      · have h := d.1.visit_offLanes r q
        rcases hr : d.1.visit r q with ⟨u, _ | o⟩ <;> rw [hr] at h <;> exact hd.trans h
      · exact hd)
    (List.finRange 24) (s, []) (.refl s)

theorem State.releaseOn_offLanes (r : ReturnId) (p : Request → Bool) : s.OffLanes (s.releaseOn r p).1 := by
  unfold State.releaseOn
  split
  · exact .refl s
  · next rel a h =>
    have ha : s.OffLanes (s.setArbitration r a) := s.setArbitration_offLanes r (fun hl => hl.release h) fun hr => hr.release h
    have hm := ha.trans (.ite (c := rel.wasActive = true) (State.mark_offLanes _ (.ret r) true) (.refl _))
    exact hm.trans (.ite (State.raise_offLanes _ _ _) (.refl _))

theorem State.releaseAll_offLanes (p : Request → Bool) : s.OffLanes (s.releaseAll p).1 :=
  foldl_keeps (fun d : State × List (ReturnId × Released) => s.OffLanes d.1) _
    (fun d r hd => by
      have h := d.1.releaseOn_offLanes r p
      rcases hr : d.1.releaseOn r p with ⟨u, _ | rel⟩ <;> rw [hr] at h <;> exact hd.trans h)
    (List.finRange 24) (s, []) (.refl s)

theorem State.listenerGone_offLanes (r : ReturnId) : s.OffLanes (s.listenerGone r) := by
  have ha : s.OffLanes (s.setArbitration r { active := none, waiting := [] }) :=
    s.setArbitration_offLanes r (fun _ => Arbitration.empty_lawful) fun _ => Arbitration.inRange_of_idle
  have hn := ha.trans (State.raise_offLanes _ .listenerGone r.val)
  unfold State.listenerGone
  exact .ite (.refl s) (.ite (hn.trans (State.mark_offLanes _ _ _)) hn)

theorem State.listenersGone_offLanes (i : SourceId) : s.OffLanes (s.listenersGone i) :=
  State.foldl_offLanes (fun t r => .ite (t.listenerGone_offLanes r) (.refl t)) (List.finRange 24) s

theorem State.expireHold_offLanes (r : ReturnId) : s.OffLanes (s.expireHold r) := by
  have ha : s.OffLanes (s.setArbitration r (promoted s.arbiter[r].waiting)) :=
    s.setArbitration_offLanes r (fun h => promoted_lawful h.short h.distinct) fun _ => promoted_inRange _
  unfold State.expireHold
  have hi := ha.trans (.ite (c := (promoted s.arbiter[r].waiting).active.isSome = true)
    (State.raise_offLanes _ .interruptStarted r.val) (.refl _))
  exact hi.trans ((State.raise_offLanes _ _ _).trans (State.mark_offLanes _ _ _))

/-! ### Keys -/

theorem State.keyTalk_offLanes (n : KeyId) (b : Binding) : s.OffLanes (s.keyTalk n b).1 := by
  unfold State.keyTalk
  split
  · dsimp only
    exact s.talkOn_offLanes _ _
  · dsimp only
    exact s.talkGroup_offLanes _ _

theorem State.keyRelease_offLanes (b : Binding) : s.OffLanes (s.keyRelease b).1 := by
  unfold State.keyRelease
  split
  · next r _ =>
    have hr := s.releaseOn_offLanes r (byOriginator b.originator)
    split <;> next hu => rw [hu] at hr; exact hr
  · dsimp only
    exact s.releaseAll_offLanes _

theorem State.recordOutcome_offLanes (d : State × KeyOutcome) (n : KeyId) : d.1.OffLanes (State.recordOutcome d n) :=
  d.1.setKey_offLanes n fun _ h => { h with }

/-- An accepted press counts on a bound key (R93). -/
theorem State.pressKey_offLanes {n : KeyId} {b : Binding} (hb : s.keys[n].binding = some b) : s.OffLanes (s.pressKey n b) := by
  have hset : s.OffLanes (s.setKey n { s.keys[n] with pressCounted := true }) :=
    s.setKey_offLanes n fun _ h => { h with counted := fun _ hn => by rw [hb] at hn; cases hn }
  unfold State.pressKey
  dsimp only
  split
  · exact hset.trans ((State.keyTalk_offLanes _ n b).trans (State.recordOutcome_offLanes _ n))
  · split
    · exact hset.trans ((State.keyRelease_offLanes _ b).trans (State.recordOutcome_offLanes _ n))
    · exact hset.trans ((State.keyTalk_offLanes _ n b).trans (State.recordOutcome_offLanes _ n))

theorem State.releaseKey_offLanes (n : KeyId) (b : Binding) : s.OffLanes (s.releaseKey n b) := by
  unfold State.releaseKey
  dsimp only
  refine State.OffLanes.trans ?_ (State.setKey_offLanes _ n fun _ h => { h with counted := fun hc => by cases hc })
  split
  · exact (State.keyRelease_offLanes s b).trans (State.recordOutcome_offLanes _ n)
  · exact .refl s
  · exact .refl s

/-- An acceptance leaves the key idle at its line's level (R90, R92). -/
theorem State.acceptKey_offLanes (n : KeyId) : s.OffLanes (s.acceptKey n) := by
  have hset : s.OffLanes (s.setKey n { s.keys[n] with accepted := s.keys[n].line, debounce := .idle }) :=
    s.setKey_offLanes n fun _ h =>
      { h with idle := fun _ => iff_of_true rfl rfl, waits := fun _ hw => by cases hw }
  unfold State.acceptKey
  dsimp only
  split
  · exact hset.trans (State.setKey_offLanes _ n fun _ h => { h with counted := fun hc => by cases hc })
  · next b hb =>
    have hbound : ((s.setKey n { s.keys[n] with accepted := s.keys[n].line, debounce := .idle }).raise .keyEvent n.val).keys[n].binding =
        some b := by rw [State.raise_keys, State.setKey_same]; exact hb
    have hpress := State.pressKey_offLanes _ hbound
    have hraise := hset.trans (State.raise_offLanes _ .keyEvent n.val)
    split
    · exact hraise.trans hpress
    · exact hraise.trans (State.releaseKey_offLanes _ n b)

theorem Key.Lawful.unbound {inReset : Bool} {k : Key} (h : k.Lawful inReset) :
    Key.Lawful inReset { k with binding := none, pressCounted := false } :=
  { h with counted := fun hc => by cases hc }

theorem State.unbind_offLanes (n : KeyId) : s.OffLanes (s.unbind n).1 := by
  rw [State.unbind_fst]
  exact (s.releaseAll_offLanes _).trans (State.setKey_offLanes _ n fun _ h => h.unbound)

/-! ### The contributor stage -/

theorem State.moveStage_offLanes (i : SourceId) (g : Stage) : s.OffLanes (s.moveStage i g) := by
  unfold State.moveStage
  refine (s.setSource_offLanes_of_counts i ?_ ?_).trans (State.markRows_offLanes _ _) <;> rfl

theorem State.putOnAir_offLanes (i : SourceId) : s.OffLanes (s.putOnAir i) := by
  unfold State.putOnAir
  refine (s.setSource_offLanes_of_no_guard i ?_ (le_of_eq ?_)).trans
    ((State.exitConference_offLanes _ i).trans ((State.raise_offLanes _ _ _).trans (State.markRows_offLanes _ _))) <;> rfl

/-- A guard started by DROP lasts the air delay (R14, R20). -/
theorem State.dropToHold_offLanes (i : SourceId) : s.OffLanes (s.dropToHold i) := by
  have hset : s.OffLanes (s.setSource i { s.sources[i] with
      stage := .hold, guard := if s.airDelay = 0 then s.sources[i].guard else some (s.airDelay * Config.framesPerMs) }) :=
    s.setSource_offLanes i fun h => ⟨fun n hn => by
      dsimp only at hn
      split at hn
      · exact h.guards i n hn
      · have hdelay := h.airDelay
        have hframes : s.airDelay * 48 = n := Option.some.inj hn
        omega, h.silence i⟩
  unfold State.dropToHold
  exact hset.trans ((State.raise_offLanes _ _ _).trans (State.markRows_offLanes _ _))

theorem State.endCall_offLanes (i : SourceId) : s.OffLanes (s.endCall i) := by
  unfold State.endCall
  refine (s.setSource_offLanes_of_no_guard i ?_ (Nat.zero_le _)).trans
    ((State.exitConference_offLanes _ i).trans ((State.markRows_offLanes _ _).trans (State.listenersGone_offLanes _ i)))
  rfl

theorem State.forceDrop_offLanes (i : SourceId) : s.OffLanes (s.forceDrop i) := by
  have hset : s.OffLanes (s.setSource i { s.sources[i] with stage := .vacant, silent := false, silenceCount := 0 }) :=
    s.setSource_offLanes i fun h => ⟨h.guards i, Nat.zero_le _⟩
  unfold State.forceDrop
  exact hset.trans ((State.markRows_offLanes _ _).trans ((State.listenersGone_offLanes _ i).trans (State.raise_offLanes _ _ _)))

theorem State.link_offLanes (r : ReturnId) (a : Option SourceId) : s.OffLanes (s.link r a) := by
  have hset : s.OffLanes ((s.setReturn r { s.returns[r] with attached := a }).markRows (onlyReturn r)) := by
    refine (s.setReturn_offLanes_of_counts r ?_ ?_).trans (State.markRows_offLanes _ _) <;> rfl
  unfold State.link
  cases a with
  | none => exact hset
  | some i => exact .ite (hset.trans (State.listenerGone_offLanes _ r)) hset

theorem State.expireGuard_offLanes (i : SourceId) : s.OffLanes (s.expireGuard i) := by
  unfold State.expireGuard
  refine (s.setSource_offLanes_of_no_guard i ?_ (le_of_eq ?_)).trans (State.markRows_offLanes _ _) <;> rfl

/-! ### The composer -/

theorem State.takeRow_offLanes : s.OffLanes s.takeRow := by
  unfold State.takeRow
  split
  · next e rest _ hq =>
    have hrest : s.OffLanes { s with queue := rest } := s.withQueue_offLanes rest fun h => by
      rw [State.QueueLawful, hq, List.map_cons] at h
      exact (List.nodup_cons.mp h).2
    exact hrest.trans (State.unruled_offLanes _ s.conferences s.airFeed s.monitor _ s.pending)
  · exact .refl s

theorem Cell.InRange.retarget {c : Cell} (h : c.InRange) {step : Nat} (hs : 1 ≤ step ∧ step ≤ 4096) (target : Coeff) :
    (c.retarget target step).InRange := by
  unfold Cell.retarget
  split
  · exact h
  · exact hs

/-- A completion gives its cells the program step or the talk step (R113). -/
theorem State.complete_offLanes (f : InFlight) : s.OffLanes (s.complete f) := by
  have hset : s.OffLanes (s.setRow f.row
      (Vector.ofFn fun i => (s.row f.row)[i].retarget f.targets[i] (if f.talk then s.talkStep else s.programStep))) := by
    refine s.setRow_offLanes f.row _ (fun h i => ?_) fun i => ?_ <;> simp only [Fin.getElem_fin, Vector.getElem_ofFn]
    · refine (show Cell.InRange _ from h.steps f.row i).retarget ?_ _
      split
      · exact h.talkStep
      · exact h.programStep
    · exact Cell.retarget_current _ _ _
  unfold State.complete
  exact hset.trans (State.unruled_offLanes _ s.conferences s.airFeed s.monitor none s.pending)

theorem State.completeRow_offLanes : s.OffLanes s.completeRow := by
  unfold State.completeRow
  split
  · exact .refl s
  · exact s.complete_offLanes _

end Operations

end Sys2Proof.Machine
end

section
/-! ## A frame arrival

What it touches (R119, R134, R144), its effect on the timers, the lanes and the sync state (R70, R133, R137, R138), and the notices it may
raise. -/

namespace Sys2Proof.Machine

open Claims

/-! ### What a frame arrival touches -/

/-- What the Level Monitor may touch in a frame arrival: the sources, the clip records, the watch interval and the ports (R144). -/
def State.WatchScope (s t : State) : Prop :=
  t = { s with
    sources := t.sources, clips := t.clips, watchRemaining := t.watchRemaining, lossMark := t.lossMark, ports := t.ports }

theorem State.WatchScope.trans {s t u : State} (h : s.WatchScope t) (k : t.WatchScope u) : s.WatchScope u := by
  cases s; cases t; cases u
  simp_all [State.WatchScope]

theorem State.MonitorScope.watch {s t : State} (h : s.MonitorScope t) : s.WatchScope t := by
  rw [State.MonitorScope] at h
  rw [State.WatchScope, h]

theorem State.watchTick_watch (s : State) : s.WatchScope s.watchTick := by
  unfold State.watchTick
  split
  · have h := s.closeInterval_frame
    generalize s.closeInterval = t at h ⊢
    rw [State.WatchScope, h]
  · rfl

/-- The tables after the mix and the timers of a frame arrival, before the Level Monitor hears it (R119 steps 2 to 5, R20, R70). -/
def State.mixed (s : State) (slots : Vector SlotWord 32) : State := (s.endFrame.mix (frameSamples slots)).tickGuards.tickHolds

/-- The Level Monitor's event in a frame arrival (R144). -/
def State.heard (s : State) (slots : Vector SlotWord 32) : State :=
  (((s.mixed slots).hearAll (frameSamples slots)).countClips (s.clipFlags (frameSamples slots))).watchTick

theorem State.takeFrame_eq (s : State) (slots : Vector SlotWord 32) : s.takeFrame slots = (s.heard slots).lockSync := rfl

theorem State.heard_watch (s : State) (slots : Vector SlotWord 32) : (s.mixed slots).WatchScope (s.heard slots) :=
  (State.hearAll_scope _ _).watch.trans ((State.countClips_scope _ _).watch.trans (State.watchTick_watch _))

theorem State.lockSync_frame (s : State) : s.lockSync = { s with
    ports := if s.sync = .locked then s.ports else s.raiseSyncChange.ports, sync := .locked, gap := some 1000 } := by
  unfold State.lockSync
  dsimp only
  cases s.sync <;> rfl

theorem State.mix_frame (s : State) (x : Vector Sample 32) : s.mix x = { s with cells := (s.mix x).cells, held := (s.mix x).held } := by
  unfold State.mix State.rampAll
  rfl

theorem State.mixed_frame (s : State) (slots : Vector SlotWord 32) : s.mixed slots = { s with
    sources := (s.mixed slots).sources, cells := (s.mixed slots).cells, held := (s.mixed slots).held
    arbiter := s.tickHolds.arbiter, assembly := .waiting, outFrame := none } := by
  have h := s.endFrame.mix_frame (frameSamples slots)
  unfold State.mixed
  generalize s.endFrame.mix (frameSamples slots) = m at h ⊢
  rw [h]
  simp only [State.tickGuards, State.tickHolds, State.endFrame]

/-- The timers and the lanes in a frame arrival (R70, R133). -/
theorem State.heard_frame (s : State) (slots : Vector SlotWord 32) : s.heard slots = { s with
    ports := (s.heard slots).ports, sources := (s.heard slots).sources, cells := (s.mixed slots).cells, held := (s.mixed slots).held
    clips := (s.heard slots).clips, watchRemaining := (s.heard slots).watchRemaining, lossMark := (s.heard slots).lossMark
    arbiter := s.tickHolds.arbiter, assembly := .waiting, outFrame := none } := by
  have h := s.heard_watch slots
  have hm := s.mixed_frame slots
  generalize s.heard slots = t at h ⊢
  generalize s.mixed slots = m at h hm ⊢
  rw [State.WatchScope, hm] at h
  rw [h]

/-- A frame arrival on the timers, the lanes and the sync state, and all it leaves alone (R70, R133, R134, R137, R138). -/
theorem State.takeFrame_frame (s : State) (slots : Vector SlotWord 32) : s.takeFrame slots = { s with
    ports := (s.takeFrame slots).ports, sources := (s.takeFrame slots).sources, cells := (s.takeFrame slots).cells
    held := (s.takeFrame slots).held, clips := (s.takeFrame slots).clips
    watchRemaining := (s.takeFrame slots).watchRemaining, lossMark := (s.takeFrame slots).lossMark
    arbiter := s.tickHolds.arbiter, assembly := .waiting, outFrame := none, sync := .locked, gap := some 1000 } := by
  have h := s.heard_frame slots
  rw [State.takeFrame_eq, State.lockSync_frame]
  generalize s.heard slots = t at h ⊢
  rw [h]

/-! ### The notices of a frame arrival -/

/-- Notices of the Level Monitor alone are raised: kinds 2 to 4 of the Console Port (R144, R174). -/
structure State.NotesLevels (s t : State) : Prop where
  port : ∀ p : Port, t.port p = { s.port p with notices := (t.port p).notices }
  sync : ∀ p : Port, (t.port p).notices.sync = (s.port p).notices.sync
  sets : ∀ (p : Port) (b : Fin 5), ¬ (p = .console ∧ 2 ≤ b.val) → (t.port p).notices.sets[b] = (s.port p).notices.sets[b]

theorem State.NotesLevels.of_ports {s t : State} (h : t.ports = s.ports) : s.NotesLevels t := by
  have hp : ∀ p, t.port p = s.port p := fun p => by rw [State.port, State.port, h]
  exact ⟨fun p => by rw [hp], fun p => by rw [hp], fun p b _ => by rw [hp]⟩

theorem State.NotesLevels.refl (s : State) : s.NotesLevels s := .of_ports rfl

theorem State.NotesLevels.trans {s t u : State} (h : s.NotesLevels t) (k : t.NotesLevels u) : s.NotesLevels u where
  port p := by rw [k.port p, h.port p]
  sync p := (k.sync p).trans (h.sync p)
  sets p b hb := (k.sets p b hb).trans (h.sets p b hb)

theorem State.raise_notesLevels (s : State) {k : NoticeKind} (hk : k.port = .console ∧ 2 ≤ k.bit.val) (i : Nat) :
    s.NotesLevels (s.raise k i) where
  port p := by
    rw [State.raise_port]
    split <;> rfl
  sync p := by
    rw [State.raise_port]
    split <;> rfl
  sets p b hb := by
    rw [State.raise_port]
    split
    · next hp =>
      have hne : k.bit.val ≠ b.val := fun h => hb ⟨hp.symm.trans hk.1, h ▸ hk.2⟩
      exact Vector.getElem_set_ne k.bit.isLt b.isLt hne
    · rfl

theorem State.foldl_notesLevels {β : Type} {f : State → β → State} (h : ∀ (t : State) b, t.NotesLevels (f t b)) (l : List β) (s : State) :
    s.NotesLevels (l.foldl f s) :=
  foldl_keeps (fun t => s.NotesLevels t) f (fun t b ht => ht.trans (h t b)) l s (.refl s)

theorem State.hearSource_notesLevels (s : State) (x : Vector Sample 32) (i : SourceId) : s.NotesLevels (s.hearSource x i) := by
  have hset : ∀ y, s.NotesLevels (s.setSource i y) := fun _ => .of_ports rfl
  unfold State.hearSource
  dsimp only
  split
  · split
    · exact (hset _).trans (State.raise_notesLevels _ ⟨rfl, le_rfl⟩ _)
    · exact .of_ports rfl
  · exact .refl s

theorem State.countClip_notesLevels (s : State) (r : ReturnId) : s.NotesLevels (s.countClip r) := by
  have hset : ∀ c, s.NotesLevels (s.setClip r c) := fun _ => .of_ports rfl
  have hraise : ∀ t : State, t.NotesLevels (t.raise .clipThreshold r.val) := fun t => t.raise_notesLevels ⟨rfl, by decide⟩ _
  unfold State.countClip
  dsimp only
  generalize (if s.clips[r].count < Config.maxClips then s.clips[r].count + 1 else s.clips[r].count) = n
  split
  · exact (hset _).trans (hraise _)
  · exact .of_ports rfl

/-- CLIP REPORT for the returns that are due at the end of a watch interval (R153 step 5). -/
def State.reportClips (s : State) : State :=
  (List.finRange 24).foldl (fun t r => if s.reportsClip r then t.raise .clipReport r.val else t) s

theorem State.closeInterval_eq (s : State) : s.closeInterval = { s.reportClips with
    clips := Vector.ofFn fun r => s.clips[r].capture, watchRemaining := watchInterval s.watchCode, lossMark := false } := rfl

theorem State.reportClips_notesLevels (s : State) : s.NotesLevels s.reportClips :=
  State.foldl_notesLevels (fun t r => by
    split
    · exact t.raise_notesLevels ⟨rfl, by decide⟩ _
    · exact .refl t) _ s

theorem State.watchTick_notesLevels (s : State) : s.NotesLevels s.watchTick := by
  unfold State.watchTick
  split
  · rw [State.closeInterval_eq]
    exact s.reportClips_notesLevels.trans (.of_ports rfl)
  · exact .of_ports rfl

theorem State.heard_notesLevels (s : State) (slots : Vector SlotWord 32) : s.NotesLevels (s.heard slots) := by
  have hmixed : s.NotesLevels (s.mixed slots) := .of_ports (by rw [State.mixed_frame])
  have hhear : ∀ t : State, t.NotesLevels (t.hearAll (frameSamples slots)) := fun t =>
    State.foldl_notesLevels (fun t i => t.hearSource_notesLevels _ i) _ t
  have hclips : ∀ (t : State) flags, t.NotesLevels (t.countClips flags) := fun t flags =>
    State.foldl_notesLevels (fun t r => by
      split
      · exact t.countClip_notesLevels r
      · exact .refl t) _ t
  exact hmixed.trans ((hhear _).trans ((hclips _ _).trans (State.watchTick_notesLevels _)))

theorem State.raiseSyncChange_port (s : State) (p : Port) :
    s.raiseSyncChange.port p = { s.port p with notices := { (s.port p).notices with sync := true } } := by
  simp [State.port, State.raiseSyncChange]

/-- SYNC CHANGE at a frame arrival, where the monitor was not LOCKED (R137). -/
theorem State.lockSync_port (s : State) (p : Port) : s.lockSync.port p = { s.port p with
    notices := { (s.port p).notices with sync := (s.port p).notices.sync || decide (s.sync ≠ .locked) } } := by
  have hp : s.lockSync.port p = if s.sync = .locked then s.port p else s.raiseSyncChange.port p := by
    rw [State.lockSync_frame]
    split <;> rfl
  rw [hp]
  by_cases h : s.sync = .locked
  · simp [h]
  · simp [h, State.raiseSyncChange_port]

end Sys2Proof.Machine

namespace Sys2Proof.Proofs

open Machine Claims

/-- Settles O47: the arrival's frame, its notices of the Level Monitor, then SYNC CHANGE. -/
theorem frameArrivalsDriveTimersAndSync : Obligations.FrameArrivalsDriveTimersAndSync := by
  refine ⟨fun s slots h => ?_, fun s slots hr ha => ⟨s.takeFrame slots, exec_frameArrival_of slots hr ha, ?_, fun p => ?_⟩⟩
  · show s.whenever s.assembly.collects (s.takeFrame slots) = _
    rw [h]
    exact State.whenever_false s _
  · have hframe := s.takeFrame_frame slots
    generalize s.takeFrame slots = t at hframe ⊢
    exact hframe
  · have hnotes := s.heard_notesLevels slots
    have hsync : (s.heard slots).sync = s.sync := by rw [State.heard_frame]
    rw [State.takeFrame_eq, State.lockSync_port, hsync]
    generalize s.heard slots = t at hnotes ⊢
    refine ⟨?_, ?_, hnotes.sets p⟩
    · rw [hnotes.port]
    · rw [hnotes.sync]

end Sys2Proof.Proofs
end

section
/-! ## Every step keeps the laws of the records, of sync and of the lanes -/

namespace Sys2Proof.Machine

open Claims

/-! ### Frames -/

section Frames

variable (s : State)

theorem Arbitration.InRange.tick {a : Arbitration} (h : a.InRange) : a.tick.InRange := fun x hx => by
  obtain ⟨y, hy, rfl⟩ := Option.map_eq_some_iff.mp hx
  exact (Nat.sub_le _ _).trans (h y hy)

theorem State.tickHolds_offLanes : s.OffLanes s.tickHolds := by
  refine s.withArbiter_offLanes _ (fun h r => ?_) fun h r => ?_ <;> simp only [Fin.getElem_fin, Vector.getElem_ofFn]
  · exact (h r).tick
  · exact (h.hold r).tick

theorem State.tickGuards_offLanes : s.OffLanes s.tickGuards := by
  refine s.withSources_offLanes _ fun h i => ?_
  simp only [Fin.getElem_fin, Vector.getElem_ofFn]
  refine ⟨fun n hn => ?_, h.silence i⟩
  obtain ⟨m, hm, rfl⟩ := Option.map_eq_some_iff.mp hn
  exact (Nat.sub_le _ _).trans (h.guards i m hm)

/-- A silence counter never passes the limit (R146). -/
theorem quietCount_le {limit count : Nat} : quietCount limit count ≤ limit := by
  unfold quietCount
  split <;> omega

theorem Source.InRange.hear {x : Source} (h : x.InRange) {limit : Nat} (hl : limit ≤ 2880000) (isLoud : Bool) :
    (x.hear limit isLoud).InRange := by
  unfold Source.hear
  split
  · exact ⟨h.guards, Nat.zero_le _⟩
  · exact ⟨h.guards, quietCount_le.trans hl⟩

theorem State.RangesLawful.silenceLimit {s : State} (h : s.RangesLawful) : s.silenceLimit ≤ 2880000 :=
  Nat.mul_le_mul_right 48000 h.silenceTime.2

theorem State.hearSource_offLanes (x : Vector Sample 32) (i : SourceId) : s.OffLanes (s.hearSource x i) := by
  have hset : s.OffLanes (s.setSource i (s.sources[i].hear s.silenceLimit (loud s.silenceThreshold x[i]))) :=
    s.setSource_offLanes i fun h => (h.source i).hear h.silenceLimit _
  unfold State.hearSource
  exact .ite (.ite (hset.trans (State.raise_offLanes _ _ _)) hset) (.refl s)

theorem State.hearAll_offLanes (x : Vector Sample 32) : s.OffLanes (s.hearAll x) :=
  State.foldl_offLanes (fun t i => t.hearSource_offLanes x i) (List.finRange 32) s

theorem State.setClip_offLanes (r : ReturnId) {c : Clip} (h : s.clips[r].InRange → c.InRange) : s.OffLanes (s.setClip r c) :=
  s.withClips_offLanes _ fun hs q => by
    have hread := s.setClip_read r q c
    unfold State.setClip at hread
    rw [hread]
    split
    · exact h (hs.clips r)
    · exact hs.clips q

theorem State.countClip_offLanes (r : ReturnId) : s.OffLanes (s.countClip r) := by
  have hcount : s.clips[r].InRange →
      (if s.clips[r].count < Config.maxClips then s.clips[r].count + 1 else s.clips[r].count) ≤ 65535 := fun h => by
    split
    · next hlt => exact hlt
    · exact h.1
  unfold State.countClip
  dsimp only
  generalize (if s.clips[r].count < Config.maxClips then s.clips[r].count + 1 else s.clips[r].count) = n at hcount ⊢
  have hset : ∀ flag, s.OffLanes (s.setClip r { s.clips[r] with count := n, overThreshold := flag }) := fun _ =>
    s.setClip_offLanes r fun h => ⟨hcount h, h.2⟩
  split
  · exact (hset true).trans (State.raise_offLanes _ _ _)
  · exact hset _

theorem State.countClips_offLanes (flags : Vector Bool 24) : s.OffLanes (s.countClips flags) :=
  State.foldl_offLanes (fun t r => .ite (t.countClip_offLanes r) (.refl t)) (List.finRange 24) s

theorem State.reportClips_offLanes : s.OffLanes s.reportClips :=
  State.foldl_offLanes (fun t _ => .ite (t.raise_offLanes _ _) (.refl t)) (List.finRange 24) s

theorem State.reportClips_frame : s.reportClips = { s with ports := s.reportClips.ports } :=
  foldl_keeps (fun t : State => t = { s with ports := t.ports }) _
    (fun t _ (ht : t = _) => by
      split
      · rw [State.raise, State.setPort, ht]
      · exact ht)
    (List.finRange 24) s rfl

theorem watchInterval_bounds {code : Nat} (h : code ≤ 7) : 1 ≤ watchInterval code ∧ watchInterval code ≤ 1536000 := by
  have hpow : 2 ^ code ≤ 2 ^ 7 := Nat.pow_le_pow_right (by decide) h
  have hpos : 0 < 2 ^ code := Nat.two_pow_pos code
  show 1 ≤ 12000 * 2 ^ code ∧ 12000 * 2 ^ code ≤ 1536000
  omega

/-- The end of a watch interval keeps the ranges: a captured count is one that was counted (R153). -/
theorem State.closeInterval_offLanes : s.OffLanes s.closeInterval := by
  have hframe := s.reportClips_frame
  have hreport := s.reportClips_offLanes
  rw [State.closeInterval_eq]
  generalize s.reportClips = t at hframe hreport ⊢
  have hclips : t.OffLanes { t with clips := Vector.ofFn fun r => s.clips[r].capture } :=
    t.withClips_offLanes _ fun h r => by
      have hr : t.clips[r] = s.clips[r] := by rw [hframe]
      simp only [Fin.getElem_fin, Vector.getElem_ofFn]
      exact ⟨Nat.zero_le _, hr ▸ (h.clips r).1⟩
  refine (hreport.trans hclips).trans (State.settings_offLanes rfl fun h => ?_)
  have hcode : t.watchCode = s.watchCode := by rw [hframe]
  exact { h with watchRemaining := watchInterval_bounds (hcode ▸ h.watchCode) }

theorem State.watchTick_offLanes : s.OffLanes s.watchTick := by
  unfold State.watchTick
  split
  · exact s.closeInterval_offLanes
  · next hlate =>
    refine State.settings_offLanes rfl fun h => { h with watchRemaining := ?_ }
    have hremaining := h.watchRemaining
    dsimp only
    omega

/-- What the laws of the records do not speak of in a lane, and the current values of the cells. -/
theorem State.audio_keepsRecords {s t : State} (ht : t = { s with
      sync := t.sync, gap := t.gap, held := t.held, cells := t.cells, assembly := t.assembly, outFrame := t.outFrame })
    (hc : ∀ (ρ : Row) (i : SourceId), (t.row ρ)[i].step = (s.row ρ)[i].step) : s.KeepsRecords t where
  arbiter := by rw [ht]; exact id
  ranges h := by
    have hsteps : ∀ (ρ : Row) (i : SourceId), 1 ≤ (t.row ρ)[i].step ∧ (t.row ρ)[i].step ≤ 4096 := fun ρ i => by
      rw [hc]
      exact h.steps ρ i
    rw [ht] at hsteps ⊢
    exact { h with steps := hsteps }
  keys _ hk := by rw [ht]; exact { hk with }
  queue := by rw [ht]; exact id
  slots := by rw [ht]; exact id

theorem State.endFrame_keepsRecords : s.KeepsRecords s.endFrame := State.audio_keepsRecords rfl fun _ _ => rfl

/-- Held samples and cells rewritten, the steps as they are. -/
theorem State.withCells_keepsRecords (held : Vector Sample 32) (cells : Vector (Vector Cell 32) 25)
    (h : ∀ (j : Fin 25) (i : SourceId), cells[j][i].step = s.cells[j][i].step) :
    s.KeepsRecords { s with held := held, cells := cells } :=
  State.audio_keepsRecords rfl fun ρ i => h (rowIndex ρ) i

theorem State.mix_keepsRecords (x : Vector Sample 32) : s.KeepsRecords (s.mix x) := by
  unfold State.mix State.rampAll
  exact s.withCells_keepsRecords _ _ fun j i => by simp

theorem State.raiseSyncChange_offLanes : s.OffLanes s.raiseSyncChange where
  arbiter := id
  ranges h := { h with }
  keys _ h := { h with }
  queue := id
  slots hs := State.slotsLawful_iff.mpr fun p => by
    rw [State.raiseSyncChange_port]
    exact { State.slotsLawful_iff.mp hs p with }
  audio := rfl

theorem State.lockSync_keepsRecords : s.KeepsRecords s.lockSync := by
  have hlock : ∀ t : State, t.KeepsRecords { t with sync := .locked, gap := some Config.gapMicros } := fun t =>
    State.audio_keepsRecords rfl fun _ _ => rfl
  unfold State.lockSync
  dsimp only
  split
  · exact hlock s
  · exact (hlock s).trans (State.raiseSyncChange_offLanes _).toKeepsRecords
  · exact (hlock s).trans (State.raiseSyncChange_offLanes _).toKeepsRecords

theorem State.heard_keepsRecords (slots : Vector SlotWord 32) : s.KeepsRecords (s.heard slots) := by
  have hmix := s.endFrame_keepsRecords.trans (State.mix_keepsRecords _ (frameSamples slots))
  have hmonitor : ∀ (t : State) x flags, t.OffLanes (((t.tickGuards.tickHolds.hearAll x).countClips flags).watchTick) := fun t _ _ =>
    t.tickGuards_offLanes.trans ((State.tickHolds_offLanes _).trans ((State.hearAll_offLanes _ _).trans
      ((State.countClips_offLanes _ _).trans (State.watchTick_offLanes _))))
  unfold State.heard State.mixed
  exact hmix.trans (hmonitor _ _ _).toKeepsRecords

/-- A frame arrival: its blocks keep the laws of the records, and it ends in LOCKED with the lanes waiting (R133, R137, R138). -/
theorem State.takeFrame_keepsLaws (slots : Vector SlotWord 32) : s.KeepsLaws (s.takeFrame slots) := by
  have hrecords : s.KeepsRecords (s.takeFrame slots) := by
    rw [State.takeFrame_eq]
    exact (s.heard_keepsRecords slots).trans (State.lockSync_keepsRecords _)
  have hframe := s.takeFrame_frame slots
  generalize s.takeFrame slots = t at hframe hrecords ⊢
  refine { hrecords with sync := fun _ => ?_, lanes := fun _ => ?_ } <;> rw [hframe]
  · exact ⟨iff_of_true rfl rfl, fun h => by cases h⟩
  · exact ⟨(fun _ h => by cases h), iff_of_false (by simp) (by simp)⟩

/-- A frame sync edge: a frame begins on the input lanes and one on the output lanes (R133, R135). -/
theorem State.startFrame_keepsLaws : s.KeepsLaws s.startFrame := by
  have hedge : ∀ slots, s.KeepsLaws { s with assembly := .collecting 0, outFrame := some slots } := fun slots =>
    { State.audio_keepsRecords (s := s) (t := { s with assembly := .collecting 0, outFrame := some slots }) rfl fun _ _ => rfl with
      sync := fun h => { h with }
      lanes := fun _ => ⟨fun n h => Assembly.collecting.inj h ▸ Nat.two_pow_pos 8, iff_of_true rfl Assembly.noConfusion⟩ }
  unfold State.startFrame
  exact hedge _

theorem State.silenceOutputs_keepsRecords : s.KeepsRecords s.silenceOutputs := by
  unfold State.silenceOutputs
  exact s.withCells_keepsRecords _ _ fun j i => by simp

/-- The loss of sync leaves held samples and current values at 0 (R129, R139). -/
theorem State.loseSync_keepsLaws : s.KeepsLaws s.loseSync := by
  have hlost : ∀ t : State, t.KeepsRecords { t with sync := .lost, gap := none } := fun _ =>
    State.audio_keepsRecords rfl fun _ _ => rfl
  have hmark : ∀ t : State, t.OffLanes { t with lossMark := true } := fun _ => State.settings_offLanes rfl fun h => { h with }
  have hend : ∀ t : State, t.KeepsRecords { t with sync := .lost, gap := none, lossMark := true } := fun t =>
    (hlost t).trans (hmark _).toKeepsRecords
  have hrecords : s.KeepsRecords s.loseSync :=
    s.silenceOutputs_keepsRecords.trans ((State.raiseSyncChange_offLanes _).toKeepsRecords.trans (hend _))
  have hassembly : s.loseSync.assembly = s.assembly := by simp [State.loseSync, State.silenceOutputs]
  have hout : s.loseSync.outFrame = s.outFrame := by simp [State.loseSync, State.silenceOutputs]
  refine { hrecords with
    sync := fun _ => ⟨?_, fun _ => ⟨fun j => ?_, fun ρ i => ?_⟩⟩
    lanes := fun h => ⟨by rw [hassembly]; exact h.count, by rw [hassembly, hout]; exact h.output⟩ }
  · exact iff_of_false (by simp [State.loseSync]) (by simp [State.loseSync])
  · simp [State.loseSync, State.silenceOutputs]
  · simp [State.loseSync, State.silenceOutputs, State.row]

/-- A bit period counts a frame that is being collected to its 255th at most (R133). -/
theorem State.bitPeriod_keepsLaws : s.KeepsLaws s.bitPeriod := by
  have hrecords : s.KeepsRecords s.bitPeriod := by
    rw [State.bitPeriod_frame]
    exact State.audio_keepsRecords rfl fun _ _ => rfl
  refine { hrecords with sync := fun h => ?_, lanes := fun h => ?_ }
  · rw [State.bitPeriod_frame]
    exact { h with }
  · unfold State.bitPeriod
    split
    · exact h
    · cases ha : s.assembly with
      | waiting => exact ⟨(fun n hn => by cases hn), by rw [h.output, ha]; rfl⟩
      | collecting k =>
        have hk := h.count k ha
        refine ⟨fun n hn => ?_, ?_⟩
        · unfold Assembly.count at hn
          split at hn
          · cases hn
          · next hm =>
            obtain rfl := Assembly.collecting.inj hm
            split at hn <;> obtain rfl := Assembly.collecting.inj hn <;> omega
        · refine iff_of_true (h.output.mpr (by simp [ha])) ?_
          unfold Assembly.count
          split
          · next hm => cases hm
          · split <;> simp

end Frames

/-! ### Device reset -/

theorem Key.reset_lawful (k : Key) : k.inReset.Lawful true where
  idle h := by cases h
  waits left h := by cases h
  counted h := by cases h

theorem State.enterReset_keepsLaws (s : State) : s.KeepsLaws s.enterReset where
  arbiter _ := State.reset_arbiterLawful
  ranges _ := { State.reset_rangesLawful with }
  keys _ _ := State.keysLawful_iff.mpr fun n => by
    rw [State.enterReset_keys]
    exact Key.reset_lawful _
  queue _ := List.nodup_nil
  slots _ := State.reset_slotsLawful
  sync _ := { State.reset_syncLawful with }
  lanes _ := { State.reset_lanesLawful with }

/-- A key as the reset ends: idle, or in a wait of the full debounce time (R89). -/
theorem Key.Lawful.wake {k : Key} {inReset : Bool} (h : k.Lawful inReset) {time : Nat} (ht : 1 ≤ time ∧ time ≤ 32) :
    (k.wake time).Lawful false := by
  refine ⟨fun _ => ?_, fun left hl => ?_, h.counted⟩
  · show (if k.line = k.accepted then Debounce.idle else .waiting time) = .idle ↔ k.line = k.accepted
    split <;> simp_all
  · change (if k.line = k.accepted then Debounce.idle else .waiting time) = .waiting left at hl
    split at hl
    · cases hl
    · exact Debounce.waiting.inj hl ▸ ht

theorem State.leaveReset_keepsLaws (s : State) : s.KeepsLaws s.leaveReset where
  arbiter := id
  ranges h := { h with }
  keys hr hk := State.keysLawful_iff.mpr fun n => by
    have hread : s.leaveReset.keys[n] = s.keys[n].wake s.debounceTime := by simp [State.leaveReset]
    rw [hread]
    exact (State.keysLawful_iff.mp hk n).wake hr.debounce
  queue := id
  slots := id
  sync h := { h with }
  lanes h := { h with }

/-! ### Contact lines -/

/-- A key follows its line: idle at the accepted level, a full wait away from it (R90). -/
theorem Key.Lawful.follow {k : Key} {inReset : Bool} (h : k.Lawful inReset) (level : Level) {time : Nat} (ht : 1 ≤ time ∧ time ≤ 32) :
    (k.follow level time).Lawful inReset := by
  refine ⟨fun _ => ?_, fun left hl => ?_, h.counted⟩
  · show (if level = k.accepted then Debounce.idle else .waiting time) = .idle ↔ level = k.accepted
    split <;> simp_all
  · change (if level = k.accepted then Debounce.idle else .waiting time) = .waiting left at hl
    split at hl
    · cases hl
    · exact Debounce.waiting.inj hl ▸ ht

theorem execKeyLineChange_offLanes {s t : State} {n : KeyId} {level : Level} (h : execKeyLineChange n level s = .next t) :
    s.OffLanes t := by
  unfold execKeyLineChange at h
  split at h
  · exact Host.Outcome.next.inj h ▸ .refl s
  · split at h <;> obtain rfl := Host.Outcome.next.inj h
    · next hr => exact s.setKey_offLanes n fun _ hk => { hk with idle := fun hf => by rw [hr] at hf; cases hf }
    · exact s.setKey_offLanes n fun hs hk => hk.follow level hs.debounce

end Sys2Proof.Machine
end

section
/-! ### Transactions and the commands of the owning blocks -/

namespace Sys2Proof.Machine

open Claims

/-! #### Slots -/

/-- What passes the checks at a port is a whole frame: code, length and parameters (R164). -/
theorem frame_of_portCheck {p : Port} {frame : List Byte} {code : Byte} {params : List Byte}
    (h : portCheck p frame = .passed code params) : frame = code :: BitVec.ofNat 8 params.length :: params := by
  unfold portCheck at h
  split at h
  · cases h
  · cases h
  · next c n ps =>
    split at h
    · cases h
    · next hfit =>
      split at h
      · cases h
      · split at h
        · cases h
        · split at h
          · cases h
          · obtain ⟨rfl, rfl⟩ := PortCheck.passed.inj h
            have hlen : ps.length = n.toNat := by
              by_contra hne
              exact hfit (.inr hne)
            rw [hlen, BitVec.ofNat_toNat, BitVec.setWidth_eq]

/-- A slot that has taken a frame: WORKING on what passed the checks, or DONE with their failure (R160, R162, R164). -/
theorem slotAfterCheck_lawful (p : Port) (frame : List Byte) {q : PortState} (hq : q.slot = slotAfterCheck (portCheck p frame)) :
    q.Lawful p := by
  refine ⟨fun he => ?_, fun code params hw => ?_⟩
  · rw [hq] at he
    cases hc : portCheck p frame <;> rw [hc] at he <;> cases he
  · rw [hq] at hw
    cases hc : portCheck p frame with
    | failed echo result => rw [hc] at hw; cases hw
    | passed code' params' =>
      rw [hc] at hw
      obtain ⟨rfl, rfl⟩ := Slot.working.inj hw
      rwa [← frame_of_portCheck hc]

section Transactions

variable (s : State)

theorem State.arrive_offLanes (p : Port) (frame : List Byte) (clocked : Nat) : s.OffLanes (s.arrive p frame clocked) := by
  unfold State.arrive
  dsimp only
  split
  · exact s.setPort_offLanes p fun _ => slotAfterCheck_lawful p frame rfl
  · next code params hw =>
    have hslot : (s.port p).slot = .working code params := hw
    exact s.setPort_offLanes p fun h => ⟨fun he => (by rw [hslot] at he; cases he), h.checked⟩
  · exact s.setPort_offLanes p fun _ => slotAfterCheck_lawful p frame rfl

theorem PortState.Lawful.fetched {p : Port} {q : PortState} (h : q.Lawful p) (n : Nat) : (q.fetched n).Lawful p := by
  unfold PortState.fetched
  dsimp only
  split
  · exact ⟨fun _ => rfl, fun _ _ hw => by cases hw⟩
  · exact { h with }
  · exact { h with }

theorem State.transact_offLanes (p : Port) (bits : List Bool) : s.OffLanes (s.transact p bits) := by
  unfold State.transact
  split
  · exact .refl s
  · split
    · exact s.arrive_offLanes p _ _
    · exact s.setPort_offLanes p fun h => h.fetched _
    · exact .refl s

theorem State.answer_offLanes (p : Port) (code : Byte) (a : Answer) : s.OffLanes (s.answer p code a) :=
  s.setPort_offLanes p fun _ => ⟨(fun he => by cases he), fun _ _ hw => by cases hw⟩

end Transactions

/-- A controller command stays off the lanes where its owner does. -/
theorem State.perform_keepsLaws {c : Instr} {owner : State → State × Answer} {s t : State} (ht : exec c s = .next t)
    (he : exec c s = s.perform c owner) (h : ∀ s : State, s.OffLanes (owner s).1) : s.KeepsLaws t := by
  refine State.OffLanes.keepsLaws ?_
  rw [he] at ht
  unfold State.perform at ht
  split at ht
  · exact Host.Outcome.next.inj ht ▸ .refl s
  · next f _ =>
    obtain rfl := Host.Outcome.next.inj ht
    obtain ⟨_, hr⟩ | ⟨_, u, hu, hr⟩ := s.runCommand_cases f owner
    · rw [hr]
      exact .refl s
    · have hsu : s.OffLanes u := by
        obtain rfl | rfl := hu
        · exact .refl u
        · exact s.arrive_offLanes _ _ _
      obtain ⟨_, hr⟩ | ⟨_, hr⟩ := hr <;> rw [hr]
      · exact (hsu.trans (h u)).trans (State.answer_offLanes _ _ _ _)
      · exact hsu

/-- An event of the part keeps the laws where its whole effect does. -/
theorem State.whenever_keepsLaws {s event t : State} {condition : Bool} (h : s.KeepsLaws event)
    (ht : s.whenever condition event = .next t) : s.KeepsLaws t :=
  State.whenever_keeps (P := s.KeepsLaws) (State.OffLanes.refl s).keepsLaws (fun _ => h) ht

/-! #### Owners -/

section Owners

variable (s : State)

theorem State.withRemote_offLanes (b : Byte) {act : SourceId → State × Answer} (h : ∀ i, s.OffLanes (act i).1) :
    s.OffLanes (s.withRemote b act).1 :=
  State.withRemote_keeps (P := s.OffLanes) b (.refl s) fun i _ => h i

theorem ownerAttach_offLanes (b : Byte) : s.OffLanes (ownerAttach b s).1 := by
  refine s.withRemote_offLanes b fun i => ?_
  split
  · exact s.moveStage_offLanes i _
  all_goals exact .refl s

theorem ownerScreen_offLanes (b : Byte) : s.OffLanes (ownerScreen b s).1 := by
  refine s.withRemote_offLanes b fun i => ?_
  split
  · exact .refl s
  · exact s.moveStage_offLanes i _
  · exact s.moveStage_offLanes i _
  all_goals exact .refl s

theorem ownerPark_offLanes (b : Byte) : s.OffLanes (ownerPark b s).1 := by
  refine s.withRemote_offLanes b fun i => ?_
  split
  · exact .refl s
  · exact s.moveStage_offLanes i _
  · exact s.moveStage_offLanes i _
  all_goals exact .refl s

theorem ownerMarkReady_offLanes (b : Byte) : s.OffLanes (ownerMarkReady b s).1 := by
  have hready : ∀ i : SourceId, s.OffLanes ((s.moveStage i .ready).raise .readyMarked i.val) := fun i =>
    (s.moveStage_offLanes i _).trans (State.raise_offLanes _ _ _)
  refine s.withRemote_offLanes b fun i => ?_
  split
  · exact .refl s
  · exact hready i
  · exact hready i
  all_goals exact .refl s

theorem ownerTake_offLanes (b : Byte) : s.OffLanes (ownerTake b s).1 := by
  refine s.withRemote_offLanes b fun i => ?_
  split
  · exact s.putOnAir_offLanes i
  all_goals exact .refl s

theorem ownerDrop_offLanes (b : Byte) : s.OffLanes (ownerDrop b s).1 := by
  refine s.withRemote_offLanes b fun i => ?_
  split
  · exact s.dropToHold_offLanes i
  all_goals exact .refl s

theorem ownerDetach_offLanes (b : Byte) : s.OffLanes (ownerDetach b s).1 := by
  refine s.withRemote_offLanes b fun i => ?_
  split
  · exact .refl s
  · exact s.endCall_offLanes i
  · exact s.endCall_offLanes i
  · exact s.endCall_offLanes i
  · exact s.forceDrop_offLanes i

theorem ownerSetSourceKind_offLanes (source kind : Byte) : s.OffLanes (ownerSetSourceKind source kind s).1 := by
  unfold ownerSetSourceKind
  split
  · next i k _ _ =>
    split
    · exact s.setSource_offLanes i fun h => ⟨h.guards i, Nat.zero_le _⟩
    · exact .refl s
  · exact .refl s

theorem ownerSetFaders_offLanes (es : List (Byte × Coeff)) : s.OffLanes (ownerSetFaders es s).1 := by
  unfold ownerSetFaders
  split
  · exact .refl s
  · exact (State.foldl_offLanes State.writeFader_offLanes es s).trans (State.markUnlessEmpty_offLanes _ _ _)

theorem ownerSetSourceOn_offLanes (es : List (Byte × Byte)) : s.OffLanes (ownerSetSourceOn es s).1 := by
  unfold ownerSetSourceOn
  split
  · exact .refl s
  · exact (State.foldl_offLanes State.writeOn_offLanes es s).trans (State.markUnlessEmpty_offLanes _ _ _)

theorem ownerSetAirFeed_offLanes (source : Byte) : s.OffLanes (ownerSetAirFeed source s).1 := by
  have hfeed : ∀ a, s.OffLanes (State.markRows { s with airFeed := a } everyReturnRow) := fun a =>
    (s.unruled_offLanes s.conferences a s.monitor s.inFlight s.pending).trans (State.markRows_offLanes _ _)
  unfold ownerSetAirFeed
  split
  · exact .refl s
  · exact hfeed none
  · split
    · exact hfeed _
    · exact .refl s

theorem ownerSetAirDelay_offLanes (d : BitVec 16) : s.OffLanes (ownerSetAirDelay d s).1 :=
  State.settings_offLanes rfl fun h => { h with airDelay := (clamp_bounds (Nat.zero_le _)).2 }

theorem ownerSetRampSteps_offLanes (p k : BitVec 16) : s.OffLanes (ownerSetRampSteps p k s).1 :=
  State.settings_offLanes rfl fun h =>
    { h with programStep := clamp_bounds (by decide), talkStep := clamp_bounds (by decide) }

theorem ownerSetWatch_offLanes (w : Byte) (c : BitVec 16) (th : BitVec 24) (st : Byte) : s.OffLanes (ownerSetWatch w c th st s).1 :=
  State.settings_offLanes rfl fun h => { h with
    watchCode := (clamp_bounds (Nat.zero_le _)).2, clipThreshold := clamp_bounds (by decide)
    silenceThreshold := (clamp_bounds (Nat.zero_le _)).2, silenceTime := clamp_bounds (by decide) }

theorem ownerSetDebounce_offLanes (b : Byte) : s.OffLanes (ownerSetDebounce b s).1 :=
  State.settings_offLanes rfl fun h => { h with debounce := clamp_bounds (by decide) }

theorem ownerSetReturn_offLanes (es : List ReturnEntry) : s.OffLanes (ownerSetReturn es s).1 := by
  unfold ownerSetReturn
  split
  · exact .refl s
  · exact (State.foldl_offLanes State.writeReturn_offLanes es s).trans (State.markRows_offLanes _ _)

theorem ownerSetMinusList_offLanes (ret : Byte) (bs : List Byte) : s.OffLanes (ownerSetMinusList ret bs s).1 := by
  unfold ownerSetMinusList
  split
  · exact .refl s
  · next r _ =>
    split
    · exact .refl s
    · split
      · exact .refl s
      · refine (s.setReturn_offLanes_of_counts r ?_ ?_).trans (State.markRows_offLanes _ _) <;> rfl

theorem ownerClearReturn_offLanes (ret : Byte) : s.OffLanes (ownerClearReturn ret s).1 := by
  unfold ownerClearReturn
  split
  · exact .refl s
  · next r _ =>
    refine (s.setReturn_offLanes r fun h => ⟨?_, ?_⟩).trans (State.markRows_offLanes _ _)
    · exact le_refl 8388607
    · exact h.refusals r

theorem ownerSelectMonitor_offLanes (ret : Byte) : s.OffLanes (ownerSelectMonitor ret s).1 := by
  unfold ownerSelectMonitor
  split
  · exact .refl s
  · exact s.unruled_offLanes s.conferences s.airFeed _ s.inFlight s.pending

theorem ownerAttachReturn_offLanes (ret source : Byte) : s.OffLanes (ownerAttachReturn ret source s).1 := by
  unfold ownerAttachReturn
  split
  · dsimp only
    simp only [apply_ite Prod.fst]
    exact .ite (.refl s) (.ite (.refl s) (.ite (.refl s) (s.link_offLanes _ _)))
  · exact .refl s

theorem ownerSetDipLevel_offLanes (ret : Byte) (l : Coeff) : s.OffLanes (ownerSetDipLevel ret l s).1 := by
  unfold ownerSetDipLevel
  split
  · exact .refl s
  · next r _ => refine (s.setReturn_offLanes_of_counts r ?_ ?_).trans (State.markRows_offLanes _ _) <;> rfl

theorem ownerSetTags_offLanes (ret b0 b1 b2 d : Byte) : s.OffLanes (ownerSetTags ret b0 b1 b2 d s).1 := by
  unfold ownerSetTags
  split
  · dsimp only
    split
    · exact .refl s
    · exact s.setReturn_offLanes_of_counts _ rfl rfl
  · exact .refl s

theorem ownerClearRefusals_offLanes (ret : Byte) : s.OffLanes (ownerClearRefusals ret s).1 := by
  unfold ownerClearRefusals
  split
  · exact .refl s
  · next r _ => exact s.setReturn_offLanes r fun h => ⟨h.ceilings r, Nat.zero_le _⟩
  · refine s.withReturns_offLanes _ fun h r => ?_
    simp only [Fin.getElem_fin, Vector.getElem_ofFn]
    exact ⟨h.ceilings r, Nat.zero_le _⟩

theorem ownerJoin_offLanes (source conference : Byte) : s.OffLanes (ownerJoin source conference s).1 := by
  unfold ownerJoin
  split
  · next i k _ _ =>
    dsimp only
    simp only [apply_ite Prod.fst]
    exact .ite (.refl s) (.ite (.refl s) (.ite (.refl s) (.ite (.refl s)
      ((s.enterConference_offLanes i k).trans (State.markRows_offLanes _ _)))))
  · exact .refl s

theorem ownerLeave_offLanes (source : Byte) : s.OffLanes (ownerLeave source s).1 := by
  unfold ownerLeave
  split
  · exact .refl s
  · next i _ =>
    split
    · exact .refl s
    · next k _ =>
      exact (s.unlist_offLanes k i).trans ((State.setMembership_offLanes _ i none).trans (State.markRows_offLanes _ _))

theorem ownerSetConference_offLanes (conference : Byte) (g b : Coeff) : s.OffLanes (ownerSetConference conference g b s).1 := by
  unfold ownerSetConference
  split
  · exact .refl s
  · exact (s.setConference_offLanes _ _).trans (State.markRows_offLanes _ _)

theorem ownerTalkDirect_offLanes (o : Byte) (ret : BitVec 7) (m p h : Byte) : s.OffLanes (ownerTalkDirect o ret m p h s).1 := by
  unfold ownerTalkDirect
  split
  · dsimp only
    exact s.talkOn_offLanes _ _
  · exact .refl s

theorem ownerTalkTag_offLanes (o : Byte) (tag : BitVec 7) (m p h : Byte) : s.OffLanes (ownerTalkTag o tag m p h s).1 := by
  unfold ownerTalkTag
  split
  · dsimp only
    exact s.talkGroup_offLanes _ _
  · exact .refl s

theorem ownerReleaseDirect_offLanes (o : Byte) (ret : BitVec 7) : s.OffLanes (ownerReleaseDirect o ret s).1 := by
  unfold ownerReleaseDirect
  split
  · next i r _ _ =>
    have hr := s.releaseOn_offLanes r (byOriginator i)
    split <;> next hu => rw [hu] at hr; exact hr
  · exact .refl s

theorem ownerReleaseTag_offLanes (o : Byte) (tag : BitVec 7) : s.OffLanes (ownerReleaseTag o tag s).1 := by
  unfold ownerReleaseTag
  split
  · dsimp only
    exact s.releaseAll_offLanes _
  · exact .refl s

theorem ownerSetTalkLevel_offLanes (source : Byte) (l : Coeff) : s.OffLanes (ownerSetTalkLevel source l s).1 := by
  unfold ownerSetTalkLevel
  split
  · exact .refl s
  · next i _ => refine (s.setSource_offLanes_of_counts i ?_ ?_).trans (State.markRows_offLanes _ _) <;> rfl

theorem Key.Lawful.rebound {inReset : Bool} {k : Key} (h : k.Lawful inReset) (b : Binding) (level : Level) (mode : KeyMode) :
    Key.Lawful inReset { k with
      binding := some b, pressLevel := level, keyMode := mode, pressCounted := false, lastOutcome := .none } :=
  { h with counted := fun hc => by cases hc }

theorem ownerBindKey_offLanes (key o target m p h l km : Byte) : s.OffLanes (ownerBindKey key o target m p h l km s).1 := by
  unfold ownerBindKey
  split
  · next n b level mode _ _ =>
    dsimp only
    have hkey : ∀ t : State, t.OffLanes (t.setKey n { t.keys[n] with
        binding := some b, pressLevel := level, keyMode := mode, pressCounted := false, lastOutcome := .none }) := fun t =>
      t.setKey_offLanes n fun _ hk => hk.rebound b level mode
    refine State.OffLanes.trans ?_ (hkey _)
    split
    · exact s.unbind_offLanes n
    · exact .refl s
  · exact .refl s

theorem ownerUnbindKey_offLanes (key : Byte) : s.OffLanes (ownerUnbindKey key s).1 := by
  unfold ownerUnbindKey
  split
  · exact .refl s
  · next n _ =>
    split
    · exact .refl s
    · exact s.unbind_offLanes n

theorem ownerAcknowledge_offLanes (p : Port) (kinds : Byte) : s.OffLanes (ownerAcknowledge p kinds s).1 := by
  unfold ownerAcknowledge
  split
  · exact s.setPort_offLanes_of_slot p rfl rfl
  · exact .refl s

theorem ownerSetNoticeMask_offLanes (p : Port) (kinds : Byte) : s.OffLanes (ownerSetNoticeMask p kinds s).1 := by
  unfold ownerSetNoticeMask
  split
  · exact s.setPort_offLanes_of_slot p rfl rfl
  · exact .refl s

end Owners

/-! ### Every command -/

/-- Every command keeps the laws, by the command's own lemma. -/
theorem exec_keepsLaws (c : Instr) {s t : State} (h : exec c s = .next t) : s.KeepsLaws t := by
  cases c with
  | commandTransaction p frame => exact State.whenever_keepsLaws (s.transact_offLanes _ _).keepsLaws h
  | fetch p dataIn => exact State.whenever_keepsLaws (s.transact_offLanes _ _).keepsLaws h
  | invalidTransaction p x => exact State.whenever_keepsLaws (s.transact_offLanes _ _).keepsLaws h
  | readSource p b => exact State.perform_keepsLaws h rfl .refl
  | readReturn p b => exact State.perform_keepsLaws h rfl .refl
  | readConference p b => exact State.perform_keepsLaws h rfl .refl
  | readStatus p => exact State.perform_keepsLaws h rfl .refl
  | readKey p b => exact State.perform_keepsLaws h rfl .refl
  | readCell p row b => exact State.perform_keepsLaws h rfl .refl
  | readWatch p => exact State.perform_keepsLaws h rfl .refl
  | acknowledge p kinds => exact State.perform_keepsLaws h rfl fun s => ownerAcknowledge_offLanes s p kinds
  | setNoticeMask p kinds => exact State.perform_keepsLaws h rfl fun s => ownerSetNoticeMask_offLanes s p kinds
  | setSourceKind b k => exact State.perform_keepsLaws h rfl fun s => ownerSetSourceKind_offLanes s b k
  | setFaders es => exact State.perform_keepsLaws h rfl fun s => ownerSetFaders_offLanes s es
  | setSourceOn es => exact State.perform_keepsLaws h rfl fun s => ownerSetSourceOn_offLanes s es
  | take b => exact State.perform_keepsLaws h rfl fun s => ownerTake_offLanes s b
  | drop b => exact State.perform_keepsLaws h rfl fun s => ownerDrop_offLanes s b
  | setReturn es => exact State.perform_keepsLaws h rfl fun s => ownerSetReturn_offLanes s es
  | setMinusList r bs => exact State.perform_keepsLaws h rfl fun s => ownerSetMinusList_offLanes s r bs
  | clearReturn r => exact State.perform_keepsLaws h rfl fun s => ownerClearReturn_offLanes s r
  | setAirFeed b => exact State.perform_keepsLaws h rfl fun s => ownerSetAirFeed_offLanes s b
  | setAirDelay d => exact State.perform_keepsLaws h rfl fun s => ownerSetAirDelay_offLanes s d
  | setRampSteps p k => exact State.perform_keepsLaws h rfl fun s => ownerSetRampSteps_offLanes s p k
  | setWatch w c th st => exact State.perform_keepsLaws h rfl fun s => ownerSetWatch_offLanes s w c th st
  | selectMonitor r => exact State.perform_keepsLaws h rfl fun s => ownerSelectMonitor_offLanes s r
  | attach b => exact State.perform_keepsLaws h rfl fun s => ownerAttach_offLanes s b
  | detach b => exact State.perform_keepsLaws h rfl fun s => ownerDetach_offLanes s b
  | screen b => exact State.perform_keepsLaws h rfl fun s => ownerScreen_offLanes s b
  | park b => exact State.perform_keepsLaws h rfl fun s => ownerPark_offLanes s b
  | markReady b => exact State.perform_keepsLaws h rfl fun s => ownerMarkReady_offLanes s b
  | attachReturn r b => exact State.perform_keepsLaws h rfl fun s => ownerAttachReturn_offLanes s r b
  | join b k => exact State.perform_keepsLaws h rfl fun s => ownerJoin_offLanes s b k
  | leave b => exact State.perform_keepsLaws h rfl fun s => ownerLeave_offLanes s b
  | setConference k g b => exact State.perform_keepsLaws h rfl fun s => ownerSetConference_offLanes s k g b
  | talkDirect o r m p hc => exact State.perform_keepsLaws h rfl fun s => ownerTalkDirect_offLanes s o r m p hc
  | talkTag o g m p hc => exact State.perform_keepsLaws h rfl fun s => ownerTalkTag_offLanes s o g m p hc
  | releaseDirect o r => exact State.perform_keepsLaws h rfl fun s => ownerReleaseDirect_offLanes s o r
  | releaseTag o g => exact State.perform_keepsLaws h rfl fun s => ownerReleaseTag_offLanes s o g
  | setTalkLevel b l => exact State.perform_keepsLaws h rfl fun s => ownerSetTalkLevel_offLanes s b l
  | setDipLevel r l => exact State.perform_keepsLaws h rfl fun s => ownerSetDipLevel_offLanes s r l
  | setTags r a b c d => exact State.perform_keepsLaws h rfl fun s => ownerSetTags_offLanes s r a b c d
  | bindKey n o g m p hc l km => exact State.perform_keepsLaws h rfl fun s => ownerBindKey_offLanes s n o g m p hc l km
  | unbindKey n => exact State.perform_keepsLaws h rfl fun s => ownerUnbindKey_offLanes s n
  | clearRefusals r => exact State.perform_keepsLaws h rfl fun s => ownerClearRefusals_offLanes s r
  | setDebounce b => exact State.perform_keepsLaws h rfl fun s => ownerSetDebounce_offLanes s b
  | frameArrival slots => exact State.whenever_keepsLaws (s.takeFrame_keepsLaws slots) h
  | silenceLimitReached i slots => exact State.whenever_keepsLaws (s.takeFrame_keepsLaws slots) h
  | watchIntervalExpiry slots => exact State.whenever_keepsLaws (s.takeFrame_keepsLaws slots) h
  | airExitGuardExpiry i => exact State.whenever_keepsLaws (s.expireGuard_offLanes i).keepsLaws h
  | holdExpiry r => exact State.whenever_keepsLaws (s.expireHold_offLanes r).keepsLaws h
  | shortFrame => exact State.whenever_keepsLaws s.startFrame_keepsLaws h
  | syncLoss => exact State.whenever_keepsLaws s.loseSync_keepsLaws h
  | keyLineChange n level => exact (execKeyLineChange_offLanes h).keepsLaws
  | keyAcceptance n => exact State.whenever_keepsLaws (s.acceptKey_offLanes n).keepsLaws h
  | recomposeTake => exact State.whenever_keepsLaws s.takeRow_offLanes.keepsLaws h
  | recomposeCompletion => exact State.whenever_keepsLaws s.completeRow_offLanes.keepsLaws h
  | deviceReset => exact Host.Outcome.next.inj h ▸ s.enterReset_keepsLaws
  | deviceResetEnd =>
    change (if s.inReset then .next s.leaveReset else .next s) = Host.Outcome.next t at h
    split at h <;> obtain rfl := Host.Outcome.next.inj h
    · exact s.leaveReset_keepsLaws
    · exact (State.OffLanes.refl s).keepsLaws
  | frameSyncRisingEdge => exact State.whenever_keepsLaws s.startFrame_keepsLaws h

/-- A step is a bit period or a command on the state with the queue's rest. -/
theorem step_keepsLaws {s t : State} (h : step s = .next t) : s.KeepsLaws t := by
  unfold step at h
  split at h
  · exact Host.Outcome.next.inj h ▸ s.bitPeriod_keepsLaws
  · next c rest _ =>
    have hrest := (s.unruled_offLanes s.conferences s.airFeed s.monitor s.inFlight rest).keepsLaws
    have hexec := exec_keepsLaws c h
    exact
      { hrest.toKeepsRecords.trans hexec.toKeepsRecords with
        sync := hexec.sync ∘ hrest.sync
        lanes := hexec.lanes ∘ hrest.lanes }

end Sys2Proof.Machine

namespace Sys2Proof.Proofs

open Machine

/-- Settles O55, by `step_keepsLaws`. -/
theorem everyStepKeepsTheArbiterLaw : Obligations.EveryStepKeepsTheArbiterLaw :=
  fun _ _ hs h => (step_keepsLaws h).arbiter hs

/-- Settles O59, by `step_keepsLaws`. -/
theorem everyStepKeepsTheRecordLaws : Obligations.EveryStepKeepsTheRecordLaws :=
  ⟨fun _ _ hs h => (step_keepsLaws h).ranges hs, fun _ _ hr hk h => (step_keepsLaws h).keys hr hk,
    fun _ _ hq hs hy h => ⟨(step_keepsLaws h).queue hq, (step_keepsLaws h).slots hs, (step_keepsLaws h).sync hy⟩,
    fun _ _ hs h => (step_keepsLaws h).lanes hs⟩

end Sys2Proof.Proofs
end

section
/-! ## One event on several returns

A TALK or a RELEASE goes over the returns one by one, and each round writes one return's records, marks its row and raises its notice
(R85, R88). The rounds of different returns do not meet, so that the whole event writes each table at once. -/

namespace Sys2Proof.Machine

open Claims

/-- What one event does on one return: the records it leaves, and whether it marks the row with talk cause and raises its notice. -/
structure Round where
  arbitration : Arbitration
  record : Return
  marks : Bool
  notes : Bool

/-- The round that does nothing. -/
def State.still (s : State) (r : ReturnId) : Round := { arbitration := s.arbiter[r], record := s.returns[r], marks := false, notes := false }

/-- One round, with the kind of notice that its event raises. -/
def State.round (s : State) (k : NoticeKind) (r : ReturnId) (c : Round) : State :=
  State.raiseEach { s with
      arbiter := s.arbiter.set r c.arbitration
      returns := s.returns.set r c.record
      queue := if c.marks then markQueue s.queue (.ret r) true else s.queue }
    k (if c.notes then [r.val] else [])

/-- The rounds of the returns of a list, all at once. -/
def State.roundsOver (s : State) (k : NoticeKind) (c : ReturnId → Round) (l : List ReturnId) : State :=
  State.raiseEach { s with
      arbiter := Vector.ofFn fun r => if r ∈ l then (c r).arbitration else s.arbiter[r]
      returns := Vector.ofFn fun r => if r ∈ l then (c r).record else s.returns[r]
      queue := joinRows s.queue ((l.filter fun r => (c r).marks).map .ret) true }
    k ((l.filter fun r => (c r).notes).map fun r => r.val)

/-- The rounds of every return, all at once. -/
def State.rounds (s : State) (k : NoticeKind) (c : ReturnId → Round) : State :=
  State.raiseEach { s with
      arbiter := Vector.ofFn fun r => (c r).arbitration
      returns := Vector.ofFn fun r => (c r).record
      queue := joinQueue s.queue (returnRows fun r => (c r).marks) true }
    k (((List.finRange 24).filter fun r => (c r).notes).map fun r => r.val)

theorem State.raiseEach_withTables (s : State) (k : NoticeKind) (is : List Nat) (a : Vector Arbitration 24) (x : Vector Return 24)
    (q : List QueueEntry) :
    { s.raiseEach k is with arbiter := a, returns := x, queue := q } =
      State.raiseEach { s with arbiter := a, returns := x, queue := q } k is := by
  induction is generalizing s with
  | nil => rfl
  | cons i is ih => exact ih (s.raise k i)

theorem State.round_arbiter (s : State) (k : NoticeKind) (r : ReturnId) (c : Round) :
    (s.round k r c).arbiter = s.arbiter.set r c.arbitration := by
  rw [State.round, State.raiseEach_frame]

theorem State.round_returns (s : State) (k : NoticeKind) (r : ReturnId) (c : Round) :
    (s.round k r c).returns = s.returns.set r c.record := by
  rw [State.round, State.raiseEach_frame]

theorem State.round_sources (s : State) (k : NoticeKind) (r : ReturnId) (c : Round) : (s.round k r c).sources = s.sources := by
  rw [State.round, State.raiseEach_frame]

/-- A table with one record written, as the rounds see it. -/
theorem ofFn_set_of_notMem {α : Type} (v : Vector α 24) (f : ReturnId → α) {r : ReturnId} {l : List ReturnId} (h : r ∉ l) :
    (Vector.ofFn fun q : ReturnId => if q ∈ l then f q else (v.set r (f r))[q]) =
      Vector.ofFn fun q : ReturnId => if q ∈ r :: l then f q else v[q] := by
  congr 1
  funext q
  by_cases hq : r = q
  · subst hq
    simp [h]
  · have hne : r.val ≠ q.val := fun hv => hq (Fin.ext hv)
    simp [Vector.getElem_set_ne, hne, Ne.symm hq]

/-- The first round may be taken before the others (R111). -/
theorem State.roundsOver_cons (s : State) (k : NoticeKind) (c : ReturnId → Round) {r : ReturnId} {l : List ReturnId} (h : r ∉ l) :
    (s.round k r (c r)).roundsOver k c l = s.roundsOver k c (r :: l) := by
  have hrow : Row.ret r ∉ (l.filter fun q => (c q).marks).map Row.ret := by simp [h]
  have hqueue : joinRows (s.round k r (c r)).queue ((l.filter fun q => (c q).marks).map .ret) true =
      joinRows s.queue (((r :: l).filter fun q => (c q).marks).map .ret) true := by
    rw [State.round, State.raiseEach_queue]
    cases hm : (c r).marks
    · simp [hm]
    · simp [hm, joinRows_cons _ _ hrow]
  have hnotes : (if (c r).notes then [r.val] else []) ++ (l.filter fun q => (c q).notes).map (fun q => q.val) =
      ((r :: l).filter fun q => (c q).notes).map fun q => q.val := by
    cases hn : (c r).notes <;> simp [hn]
  unfold State.roundsOver
  rw [hqueue, State.round_arbiter, State.round_returns,
    ofFn_set_of_notMem s.arbiter (fun q => (c q).arbitration) h, ofFn_set_of_notMem s.returns (fun q => (c q).record) h,
    State.round, State.raiseEach_withTables, State.raiseEach_append, hnotes]

theorem ofFn_self {α : Type} {n : Nat} (v : Vector α n) : (Vector.ofFn fun i : Fin n => v[i]) = v := by
  ext i hi
  simp

theorem State.roundsOver_nil (s : State) (k : NoticeKind) (c : ReturnId → Round) : s.roundsOver k c [] = s := by
  simp only [State.roundsOver, List.not_mem_nil, if_false, ofFn_self, List.filter_nil, List.map_nil, joinRows_nil]
  rfl

theorem State.roundsOver_all (s : State) (k : NoticeKind) (c : ReturnId → Round) : s.roundsOver k c (List.finRange 24) = s.rounds k c := by
  have hq : joinRows s.queue (((List.finRange 24).filter fun r => (c r).marks).map .ret) true =
      joinQueue s.queue (returnRows fun r => (c r).marks) true := by
    rw [← joinRows_filter_rowOrder]
    simp [rowOrder, List.filter_map, Function.comp_def, returnRows]
  simp only [State.roundsOver, List.mem_finRange, if_true, hq]
  rfl

/-- A state that a round on a return cannot tell from another (R59, R85). -/
structure State.AgreesAt (s t : State) (r : ReturnId) : Prop where
  arbitration : t.arbiter[r] = s.arbiter[r]
  record : t.returns[r] = s.returns[r]
  sources : t.sources = s.sources

theorem State.AgreesAt.round {s t : State} {q : ReturnId} (h : s.AgreesAt t q) {r : ReturnId} (hne : r ≠ q) (k : NoticeKind) (c : Round) :
    s.AgreesAt (t.round k r c) q := by
  have hv : r.val ≠ q.val := fun hv => hne (Fin.ext hv)
  refine ⟨?_, ?_, ?_⟩
  · rw [State.round_arbiter]
    exact (Vector.getElem_set_ne r.isLt q.isLt hv).trans h.arbitration
  · rw [State.round_returns]
    exact (Vector.getElem_set_ne r.isLt q.isLt hv).trans h.record
  · rw [State.round_sources]
    exact h.sources

/-- A loop over the returns whose rounds look at their own return alone is the rounds of all at once, with what each reports. -/
theorem foldl_rounds {β : Type} (s : State) (k : NoticeKind) (c : ReturnId → Round) (e : ReturnId → List β)
    {f : State × List β → ReturnId → State × List β}
    (hf : ∀ t acc r, s.AgreesAt t r → f (t, acc) r = (t.round k r (c r), acc ++ e r)) :
    (List.finRange 24).foldl f (s, []) = (s.rounds k c, (List.finRange 24).flatMap e) := by
  suffices h : ∀ (l : List ReturnId), l.Nodup → ∀ t acc, (∀ r ∈ l, s.AgreesAt t r) →
      l.foldl f (t, acc) = (t.roundsOver k c l, acc ++ l.flatMap e) by
    rw [h _ (List.nodup_finRange 24) s [] fun r _ => ⟨rfl, rfl, rfl⟩, State.roundsOver_all, List.nil_append]
  intro l
  induction l with
  | nil =>
    intro _ t acc _
    rw [State.roundsOver_nil, List.flatMap_nil, List.append_nil]
    rfl
  | cons r l ih =>
    intro hd t acc ht
    obtain ⟨hr, hl⟩ := List.nodup_cons.mp hd
    have hrest : ∀ q ∈ l, s.AgreesAt (t.round k r (c r)) q := fun q hq =>
      (ht q (List.mem_cons_of_mem r hq)).round (by rintro rfl; exact hr hq) k _
    rw [List.foldl_cons, hf t acc r (ht r List.mem_cons_self), ih hl _ _ hrest, State.roundsOver_cons t k c hr, List.flatMap_cons,
      List.append_assoc]

/-! ### One round alone -/

theorem joinQueue_none (q : List QueueEntry) (talk : Bool) : joinQueue q (returnRows fun _ => false) talk = q := by
  have hp : (returnRows fun _ => false) = fun _ => false := by
    funext ρ
    cases ρ <;> rfl
  simp [joinQueue, hp]

theorem returnRows_single (r : ReturnId) : (returnRows fun q => decide (q = r)) = onlyReturn r := by
  funext ρ
  cases ρ <;> simp [returnRows, onlyReturn]

theorem filter_single (r : ReturnId) : (List.finRange 24).filter (fun q => decide (q = r)) = [r] := by
  rw [List.filter_eq, List.count_eq_one_of_mem (List.nodup_finRange 24) (List.mem_finRange r), List.replicate_one]

theorem ofFn_update {α : Type} (v : Vector α 24) (r : ReturnId) (x : α) :
    (Vector.ofFn fun q : ReturnId => if q = r then x else v[q]) = v.set r x := by
  ext q hq
  by_cases h : r.val = q
  · subst h
    simp
  · have hne : (⟨q, hq⟩ : ReturnId) ≠ r := fun he => h (congrArg Fin.val he).symm
    simp [Vector.getElem_set_ne, h, hne]

/-- The rounds of an event that reaches one return are its round. -/
theorem State.rounds_single (s : State) (k : NoticeKind) (r : ReturnId) (c : Round) :
    (s.rounds k fun q => if q = r then c else s.still q) = s.round k r c := by
  have hqueue : joinQueue s.queue (returnRows fun q => (if q = r then c else s.still q).marks) true =
      if c.marks then markQueue s.queue (.ret r) true else s.queue := by
    have hmarks : (fun q => (if q = r then c else s.still q).marks) = fun q => decide (q = r) && c.marks := by
      funext q
      split <;> simp_all [State.still]
    rw [hmarks]
    cases c.marks
    · simpa using joinQueue_none s.queue true
    · simp only [Bool.and_true, returnRows_single, if_true, markQueue_eq]
      rfl
  have hnotes : ((List.finRange 24).filter fun q => (if q = r then c else s.still q).notes).map (fun q => q.val) =
      if c.notes then [r.val] else [] := by
    have hnotes : (fun q => (if q = r then c else s.still q).notes) = fun q => decide (q = r) && c.notes := by
      funext q
      split <;> simp_all [State.still]
    rw [hnotes]
    cases c.notes
    · simp
    · simp [filter_single]
  unfold State.rounds State.round
  rw [hqueue, hnotes]
  simp only [apply_ite Round.arbitration, apply_ite Round.record, State.still, ofFn_update]

theorem State.round_still (s : State) (k : NoticeKind) (r : ReturnId) : s.round k r (s.still r) = s := by
  simp [State.round, State.still, State.raiseEach]

/-- Rounds that do nothing leave the state. -/
theorem State.rounds_still (s : State) (k : NoticeKind) {c : ReturnId → Round} (h : ∀ r, c r = s.still r) : s.rounds k c = s := by
  have hc : c = fun q => if q = (0 : ReturnId) then s.still 0 else s.still q := by
    funext q
    split
    · next hq => rw [h q, hq]
    · exact h q
  rw [hc, State.rounds_single, State.round_still]

/-- A round that leaves the return's record. -/
theorem State.round_arbitration (s : State) (k : NoticeKind) (r : ReturnId) (a : Arbitration) (marks notes : Bool) :
    s.round k r { arbitration := a, record := s.returns[r], marks := marks, notes := notes } =
      State.raiseEach { s with
          arbiter := s.arbiter.set r a
          queue := if marks then markQueue s.queue (.ret r) true else s.queue }
        k (if notes then [r.val] else []) := by
  have hr : s.returns.set r.val s.returns[r] = s.returns := Vector.set_getElem_self r.isLt
  unfold State.round
  dsimp only
  rw [hr]

end Sys2Proof.Machine
end

section
/-! ## TALK

The arguments of TALK and RELEASE (R58, R67, R84, R88), what an outcome leaves on its return, and TALK to one return and to a tag as the
rounds of the returns they reach (R59 to R65, R85 to R87). -/

namespace Sys2Proof.Machine

open Claims

/-! ### Arguments -/

theorem State.originatorArg_of_names {s : State} {b : Byte} {i : SourceId} (hb : Names b i) (hk : s.sources[i].kind = .talkback) :
    s.originatorArg b = some i := by
  simp only [State.originatorArg, indexArg_eq_some.mpr hb, if_pos hk]

theorem State.originatorArg_names {s : State} {b : Byte} {i : SourceId} (h : s.originatorArg b = some i) : Names b i := by
  unfold State.originatorArg at h
  split at h
  · cases h
  · next j hj =>
    split at h
    · exact Option.some.inj h ▸ indexArg_eq_some.mp hj
    · cases h

theorem State.originatorArg_eq_none {s : State} {b : Byte} (h : NoOriginator s b) : s.originatorArg b = none :=
  Option.eq_none_iff_forall_ne_some.mpr fun i hi => h i (State.originatorArg_names hi) (State.originatorArg_kind hi)

theorem directArg_eq_some {b : BitVec 7} {r : ReturnId} (h : b.toNat = r.val) : directArg b = some r := by
  have hlt : b.toNat < 24 := h ▸ r.isLt
  rw [directArg, dif_pos hlt]
  exact congrArg some (Fin.ext h)

theorem directArg_eq_none {b : BitVec 7} (h : 24 ≤ b.toNat) : directArg b = none := dif_neg (Nat.not_lt.mpr h)

theorem tagNumber_eq_some {n : Nat} {t : TagId} (h : n = t.val + 1) : tagNumber n = some t := by
  have hlt := t.isLt
  have hn : 1 ≤ n ∧ n ≤ 15 := by omega
  rw [tagNumber, dif_pos hn]
  exact congrArg some (Fin.ext (Nat.sub_eq_of_eq_add h))

theorem tagNumber_eq_none {n : Nat} (h : n = 0 ∨ 16 ≤ n) : tagNumber n = none := dif_neg (by omega)

theorem modeArg_byte (m : Mode) : modeArg m.byte = some m := by cases m <;> rfl

theorem modeArg_eq_none {b : Byte} (h : 2 ≤ b.toNat) : modeArg b = none := by
  unfold modeArg
  split
  · omega
  · omega
  · rfl

theorem holdCodeArg_eq {b : Byte} {code : Fin 8} (h : code.val = min b.toNat 7) : holdCodeArg b = code := by
  apply Fin.ext
  rw [h]
  unfold holdCodeArg
  split
  · exact (Nat.min_eq_left (by omega)).symm
  · exact (Nat.min_eq_right (by omega)).symm

/-! ### Outcomes as rounds -/

/-- What an outcome of a request leaves on a return (R60 to R65, R74). -/
def State.talkRound (s : State) (q : Request) (r : ReturnId) (o : Option TalkOutcome) : Round where
  arbitration := if activates o || queues o then (decision s r q).2 else s.arbiter[r]
  record := if refuses o then { s.returns[r] with refusals := countUp s.returns[r].refusals } else s.returns[r]
  marks := activates o
  notes := displaces o

theorem afterOutcomes_eq (s : State) (q : Request) (o : ReturnId → Option TalkOutcome) :
    afterOutcomes s q o = s.rounds .requestDisplaced fun r => s.talkRound q r (o r) := rfl

theorem State.talkRound_none (s : State) (q : Request) (r : ReturnId) : s.talkRound q r none = s.still r := rfl

theorem State.round_refused (s : State) (q : Request) (r : ReturnId) (c : ResultCode) :
    s.round .requestDisplaced r (s.talkRound q r (some (.refused c))) = s.countRefusal r := by
  have ha : s.arbiter.set r.val s.arbiter[r] = s.arbiter := Vector.set_getElem_self r.isLt
  show ({ s with arbiter := s.arbiter.set r.val s.arbiter[r], returns := _ } : State) = _
  rw [ha]
  rfl

/-- A TALK to one return is the round of its decision's outcome (R59 to R65, R74). -/
theorem State.talkOn_eq (s : State) (r : ReturnId) (q : Request) :
    s.talkOn r q = (s.round .requestDisplaced r (s.talkRound q r (some (decision s r q).1)), (decision s r q).1) := by
  have hd : s.arbiter[r].decide (s.listenerVacant r) q = decision s r q := rfl
  unfold State.talkOn
  rw [hd]
  dsimp only
  rcases ho : (decision s r q).1 with ⟨p, _ | d⟩ | n | c
  · exact congrArg (·, _) (s.round_arbitration .requestDisplaced r (decision s r q).2 true false).symm
  · exact congrArg (·, _) (s.round_arbitration .requestDisplaced r (decision s r q).2 true true).symm
  · exact congrArg (·, _) (s.round_arbitration .requestDisplaced r (decision s r q).2 false false).symm
  · rw [State.round_refused]

/-- TALK to one return is the outcome of that return alone (R58, R59). -/
theorem State.talkOn_direct (s : State) (r : ReturnId) (q : Request) :
    s.talkOn r q = (afterOutcomes s q (directOutcome s r q), (decision s r q).1) := by
  have hround : (fun r' => s.talkRound q r' (directOutcome s r q r')) =
      fun r' => if r' = r then s.talkRound q r (some (decision s r q).1) else s.still r' := by
    funext r'
    unfold directOutcome
    split
    · next h => rw [h]
    · rfl
  rw [State.talkOn_eq, afterOutcomes_eq, hround, State.rounds_single]

/-! ### The visits of a group TALK -/

section Agrees

variable {s t : State} {r : ReturnId}

theorem State.AgreesAt.decision_eq (h : s.AgreesAt t r) (q : Request) : decision t r q = decision s r q := by
  simp only [decision, gone, h.arbitration, h.record, h.sources]

theorem State.AgreesAt.groupOutcome_eq (h : s.AgreesAt t r) (g : TagId) (q : Request) : groupOutcome t g q r = groupOutcome s g q r := by
  simp only [groupOutcome, h.decision_eq, h.record]

theorem State.AgreesAt.talkRound_eq (h : s.AgreesAt t r) (q : Request) (o : Option TalkOutcome) : t.talkRound q r o = s.talkRound q r o := by
  simp only [State.talkRound, h.decision_eq, h.arbitration, h.record]

end Agrees

theorem Return.carries_iff (x : Return) (t : TagId) : x.carries t = true ↔ some t ∈ x.tags.toList := by
  rw [Return.carries, List.contains_iff_mem]

/-- A visit is the round of its outcome, by the return's deaf mode (R85). -/
theorem State.visit_eq (s : State) {r : ReturnId} {g : TagId} (h : s.returns[r].carries g = true) (q : Request) :
    s.visit r q = (s.round .requestDisplaced r (s.talkRound q r (groupOutcome s g q r)), groupOutcome s g q r) := by
  unfold State.visit groupOutcome
  rw [if_pos ((Return.carries_iff _ g).mp h)]
  cases hm : s.returns[r].deaf with
  | normal =>
    dsimp only
    rw [State.talkOn_eq]
  | deaf =>
    dsimp only
    rw [State.talkRound_none, State.round_still]
  | refuse =>
    dsimp only
    rw [State.round_refused]

theorem groupOutcome_of_not_carries {s : State} {r : ReturnId} {g : TagId} (h : ¬ s.returns[r].carries g = true) (q : Request) :
    groupOutcome s g q r = none := if_neg (mt (Return.carries_iff _ g).mpr h)

/-- The entry of a visited return (R87). -/
def talkEntry (r : ReturnId) (o : Option TalkOutcome) : List TalkEntry := o.toList.map fun x => { ret := r, outcome := x }

/-- A group TALK is the outcomes of its visits, in one event (R85 to R87). -/
theorem State.talkGroup_eq (s : State) (g : TagId) (q : Request) :
    s.talkGroup g q = (afterOutcomes s q (groupOutcome s g q), (List.finRange 24).flatMap fun r => talkEntry r (groupOutcome s g q r)) := by
  unfold State.talkGroup
  rw [afterOutcomes_eq]
  refine foldl_rounds s _ _ _ fun t acc r ht => ?_
  dsimp only
  rw [← ht.groupOutcome_eq, ← ht.talkRound_eq]
  by_cases hc : t.returns[r].carries g = true
  · rw [if_pos hc, t.visit_eq hc]
    cases groupOutcome t g q r with
    | none => simp [talkEntry]
    | some o => simp [talkEntry]
  · rw [if_neg hc, groupOutcome_of_not_carries hc, State.talkRound_none, State.round_still]
    simp [talkEntry]

/-! ### The answer to a group TALK -/

theorem filter_talkEntry_length {test : Option TalkOutcome → Bool} (h : test none = false) (o : ReturnId → Option TalkOutcome)
    (l : List ReturnId) :
    ((l.flatMap fun r => talkEntry r (o r)).filter fun e => test (some e.outcome)).length = (l.filter fun r => test (o r)).length := by
  induction l with
  | nil => rfl
  | cons r l ih =>
    rw [List.flatMap_cons, List.filter_append, List.length_append, ih]
    cases ho : o r with
    | none => simp [talkEntry, ho, h]
    | some x => cases hx : test (some x) <;> simp [talkEntry, ho, hx, Nat.add_comm]

theorem talkCounts_eq (es : List TalkEntry) : talkCounts es =
    { active := (es.filter fun e => activates (some e.outcome)).length
      queued := (es.filter fun e => queues (some e.outcome)).length
      refused := (es.filter fun e => refuses (some e.outcome)).length } := by
  unfold talkCounts
  congr 2 <;> exact List.filter_congr fun ⟨_, o⟩ _ => (by cases o <;> rfl)

theorem talkCounts_group (s : State) (g : TagId) (q : Request) :
    talkCounts ((List.finRange 24).flatMap fun r => talkEntry r (groupOutcome s g q r)) = groupCounts s g q := by
  rw [talkCounts_eq, filter_talkEntry_length rfl, filter_talkEntry_length rfl, filter_talkEntry_length rfl]
  rfl

theorem TalkEntry.bytes_eq (r : ReturnId) (o : TalkOutcome) : TalkEntry.bytes { ret := r, outcome := o } = entryBytes r o := by
  cases o <;> rfl

theorem groupAnswer_eq (s : State) (g : TagId) (q : Request) :
    groupAnswer q.holdCode ((List.finRange 24).flatMap fun r => talkEntry r (groupOutcome s g q r)) =
      { result := groupCode (groupCounts s g q), body := groupBody s g q } := by
  have hentries : ((List.finRange 24).flatMap fun r => talkEntry r (groupOutcome s g q r)).flatMap TalkEntry.bytes =
      (List.finRange 24).flatMap fun r => match groupOutcome s g q r with
        | none => []
        | some o => entryBytes r o := by
    rw [List.flatMap_assoc]
    congr 1
    funext r
    cases groupOutcome s g q r <;> simp [talkEntry, TalkEntry.bytes_eq]
  unfold groupAnswer groupBody
  rw [talkCounts_group, hentries]
  rfl

end Sys2Proof.Machine

namespace Sys2Proof.Proofs

open Machine Claims

/-- The refusal count that a refused direct TALK answers (R65, R171). -/
theorem afterOutcomes_refused {s : State} {q : Request} {r : ReturnId} {c : ResultCode} (h : (decision s r q).1 = .refused c) :
    (afterOutcomes s q (directOutcome s r q)).returns[r].refusals = countUp s.returns[r].refusals := by
  have ho : directOutcome s r q r = some (.refused c) := by rw [directOutcome, if_pos rfl, h]
  unfold afterOutcomes
  rw [State.raiseEach_frame]
  simp [ho, refuses]

/-- Settles O36: the outcome of the one return, and the answer by the decision's case. -/
theorem directTalkIsDecidedOnItsReturn : Obligations.DirectTalkIsDecidedOnItsReturn := by
  refine fun s o m p h rb => ⟨fun hbad => completes_of_owner rfl rfl ?_, ?_⟩
  · unfold ownerTalkDirect
    split
    · next hi hr hm hp =>
      obtain hbad | hbad | hbad | hbad := hbad
      · rw [State.originatorArg_eq_none hbad] at hi
        cases hi
      · rw [directArg_eq_none hbad] at hr
        cases hr
      · rw [modeArg_eq_none hbad] at hm
        cases hm
      · rw [indexArg_eq_none.mpr hbad] at hp
        cases hp
    · rfl
  · rintro i r mode pr code ho hk hr rfl hp hcode
    have howner : ∀ a, directAnswer (afterOutcomes s (directRequest i r mode pr code .port)
          (directOutcome s r (directRequest i r mode pr code .port))) r code (decision s r (directRequest i r mode pr code .port)).1 = a →
        Completes (.talkDirect o rb mode.byte p h) .talkback 0x40 [o, BitVec.append (0#1) rb, mode.byte, p, h] s
          (afterOutcomes s (directRequest i r mode pr code .port) (directOutcome s r (directRequest i r mode pr code .port))) a := by
      rintro a rfl
      refine completes_of_owner rfl rfl ?_
      simp only [ownerTalkDirect, State.originatorArg_of_names ho hk, directArg_eq_some hr, modeArg_byte, indexArg_eq_some.mpr hp,
        holdCodeArg_eq hcode, State.talkOn_direct]
    refine ⟨fun old gone hd => howner _ ?_, fun n hd => howner _ ?_, fun c hd => howner _ ?_⟩
    · exact congrArg (directAnswer _ r code) hd
    · exact congrArg (directAnswer _ r code) hd
    · refine (congrArg (directAnswer _ r code) hd).trans ?_
      exact congrArg (fun n => ({ result := c, body := count16 n } : Answer)) (afterOutcomes_refused hd)

/-- Settles O37: the outcomes of the tagged returns, and the answer over their entries. -/
theorem groupTalkVisitsTheTaggedReturns : Obligations.GroupTalkVisitsTheTaggedReturns := by
  refine fun s o m p h tb => ⟨fun hbad => completes_of_owner rfl rfl ?_, ?_⟩
  · unfold ownerTalkTag
    split
    · next hi hg hm hp =>
      obtain hbad | hbad | hbad | hbad | hbad := hbad
      · rw [State.originatorArg_eq_none hbad] at hi
        cases hi
      · rw [tagNumber_eq_none (.inl (by rw [hbad]; rfl))] at hg
        cases hg
      · rw [tagNumber_eq_none (.inr hbad)] at hg
        cases hg
      · rw [modeArg_eq_none hbad] at hm
        cases hm
      · rw [indexArg_eq_none.mpr hbad] at hp
        cases hp
    · rfl
  · rintro i t mode pr code ho hk ht rfl hp hcode
    refine completes_of_owner rfl rfl ?_
    simp only [ownerTalkTag, State.originatorArg_of_names ho hk, tagNumber_eq_some ht, modeArg_byte, indexArg_eq_some.mpr hp,
      holdCodeArg_eq hcode, State.talkGroup_eq]
    exact congrArg _ (groupAnswer_eq s t (groupRequest i t mode pr code .port))

end Sys2Proof.Proofs
end

section
/-! ## RELEASE

A release of requests of which a return holds one at most, as in every state with the law of R57 (log entry 15), and RELEASE on one return
and of a tag as the rounds of the returns that hold the request (R67 to R69, R88). -/

namespace Sys2Proof.Machine

open Claims

/-! ### A release on one return -/

/-- One request of a return at most satisfies `p`. -/
structure Arbitration.Sole (a : Arbitration) (p : Request → Bool) : Prop where
  activeAlone : activeHit a p = true → ∀ q ∈ a.waiting, p q = false
  single : (a.waiting.filter p).length ≤ 1

theorem activeHit_iff {a : Arbitration} {p : Request → Bool} : activeHit a p = true ↔ ∃ x, a.active = some x ∧ p x.request = true :=
  Option.any_eq_true ..

/-- Under the law of R57 the requests of one originator are one at most. -/
theorem Arbitration.Lawful.sole {a : Arbitration} (h : a.Lawful) {p : Request → Bool} {i : SourceId}
    (hp : ∀ q ∈ a.requests, p q = true → q.originator = i) : a.Sole p where
  activeAlone hx q hq := by
    obtain ⟨x, hx, hpx⟩ := activeHit_iff.mp hx
    refine Bool.eq_false_iff.mpr fun hpq => h.activeApart x hx (List.mem_map.mpr ⟨q, hq, ?_⟩)
    have hxi := hp x.request (by simp [Arbitration.requests, hx]) hpx
    have hqi := hp q (by simp [Arbitration.requests, hq]) hpq
    exact hqi.trans hxi.symm
  single := by
    have hsub : (a.waiting.filter p).Sublist a.waiting := List.filter_sublist
    have hall : (a.waiting.filter p).map Request.originator = List.replicate (a.waiting.filter p).length i := by
      refine List.eq_replicate_iff.mpr ⟨List.length_map .., fun j hj => ?_⟩
      obtain ⟨q, hq, rfl⟩ := List.mem_map.mp hj
      obtain ⟨hq, hpq⟩ := List.mem_filter.mp hq
      exact hp q (by simp [Arbitration.requests, hq]) hpq
    exact List.nodup_replicate.mp (hall ▸ h.distinct.sublist (hsub.map _))

/-- What a release of one request reports (R68, R69). -/
def released (a : Arbitration) (p : Request → Bool) : Released where
  number := 1
  wasActive := activeHit a p
  promoted := if activeHit a p then (promoted a.waiting).originator else none

/-- The release of the one request that satisfies `p` (R67 to R69). -/
theorem Arbitration.Sole.release_eq {a : Arbitration} {p : Request → Bool} (h : a.Sole p) :
    a.release p = if hit a p then some (released a p, afterRelease a p) else none := by
  have hlen := List.length_eq_length_filter_add p (l := a.waiting)
  have hsingle := h.single
  unfold Arbitration.release released afterRelease hit
  dsimp only
  cases hx : activeHit a p with
  | true =>
    have hrest : a.waiting.filter (fun q => !p q) = a.waiting :=
      List.filter_eq_self.mpr fun q hq => by rw [h.activeAlone hx q hq]; rfl
    rw [if_pos (show (a.active.any fun x => p x.request) = true from hx), hrest, Nat.sub_self]
    rfl
  | false =>
    have hx : ¬ (a.active.any fun x => p x.request) = true := Bool.eq_false_iff.mp hx
    rw [if_neg hx, Bool.false_or]
    cases hw : a.waiting.any p with
    | true =>
      have hpos : 0 < (a.waiting.filter p).length := by simpa [List.length_pos_iff, List.filter_eq_nil_iff] using hw
      have hone : a.waiting.length - (a.waiting.filter fun q => !p q).length = 1 := by omega
      rw [hone]
      rfl
    | false =>
      have hnil : (a.waiting.filter p).length = 0 := by simpa [List.filter_eq_nil_iff] using hw
      rw [if_pos (by omega)]
      rfl

theorem afterRelease_of_not_hit {a : Arbitration} {p : Request → Bool} (h : hit a p = false) : afterRelease a p = a := by
  obtain ⟨hx, hw⟩ := Bool.or_eq_false_iff.mp h
  have hrest : a.waiting.filter (fun q => !p q) = a.waiting := List.filter_eq_self.mpr fun q hq => by
    simp [List.any_eq_false.mp hw q hq]
  rw [afterRelease, if_neg (Bool.eq_false_iff.mp hx), hrest]

theorem promoted_originator_isSome (l : List Request) : (promoted l).originator.isSome = !l.isEmpty := by
  by_cases h : l = []
  · subst h
    rfl
  · obtain ⟨n, q, _, _, hp⟩ := promoted_of_ne_nil h
    simp [hp, Arbitration.originator, h]

theorem released_promoted_isSome (a : Arbitration) (p : Request → Bool) :
    (released a p).promoted.isSome = (activeHit a p && !a.waiting.isEmpty) := by
  unfold released
  cases activeHit a p
  · rfl
  · exact promoted_originator_isSome a.waiting

/-! ### Releases as rounds -/

/-- What a release leaves on a return, where it looks at the return at all (R68, R69, R74). -/
def State.releaseRound (s : State) (p : Request → Bool) (r : ReturnId) (looks : Bool) : Round where
  arbitration := if looks then afterRelease s.arbiter[r] p else s.arbiter[r]
  record := s.returns[r]
  marks := looks && activeHit s.arbiter[r] p
  notes := looks && activeHit s.arbiter[r] p && !s.arbiter[r].waiting.isEmpty

theorem afterReleases_eq (s : State) (p : Request → Bool) (looks : ReturnId → Bool) :
    afterReleases s p looks = s.rounds .interruptStarted fun r => s.releaseRound p r (looks r) := by
  have hreturns : (Vector.ofFn fun r : ReturnId => s.returns[r]) = s.returns := ofFn_self s.returns
  unfold afterReleases State.rounds State.releaseRound
  dsimp only
  rw [hreturns]

theorem State.releaseRound_of_not_hit {s : State} {p : Request → Bool} {r : ReturnId} (h : hit s.arbiter[r] p = false) :
    s.releaseRound p r true = s.still r := by
  have hx : activeHit s.arbiter[r] p = false := (Bool.or_eq_false_iff.mp h).1
  simp only [State.releaseRound, State.still, hx, afterRelease_of_not_hit h, if_true, Bool.and_false, Bool.false_and]

/-- The steps of a release on one return, as a round: its mark and its notice where it has them (R69, R74). -/
theorem State.round_release (s : State) (r : ReturnId) (a : Arbitration) (marks notes : Bool) :
    (let t := s.setArbitration r a
     let u := if marks then t.mark (.ret r) true else t
     if notes then u.raise .interruptStarted r.val else u) =
      s.round .interruptStarted r { arbitration := a, record := s.returns[r], marks := marks, notes := notes } := by
  rw [State.round_arbitration]
  cases marks <;> cases notes <;> rfl

/-- A release on one return is its round, with what it reports (R67 to R69). -/
theorem State.releaseOn_eq (s : State) {r : ReturnId} {p : Request → Bool} (h : s.arbiter[r].Sole p) :
    s.releaseOn r p = (s.round .interruptStarted r (s.releaseRound p r true),
      if hit s.arbiter[r] p then some (released s.arbiter[r] p) else none) := by
  unfold State.releaseOn
  rw [h.release_eq]
  cases hh : hit s.arbiter[r] p with
  | false =>
    rw [State.releaseRound_of_not_hit hh, State.round_still]
    rfl
  | true =>
    have hnotes := released_promoted_isSome s.arbiter[r] p
    have hround := s.round_release r (afterRelease s.arbiter[r] p) (released s.arbiter[r] p).wasActive
      (released s.arbiter[r] p).promoted.isSome
    rw [hnotes] at hround
    rw [if_pos rfl]
    dsimp only
    rw [hnotes]
    exact congrArg (·, _) hround

/-- RELEASE on one return is the releases of that return alone (R67). -/
theorem State.releaseOn_direct (s : State) {r : ReturnId} {p : Request → Bool} (h : s.arbiter[r].Sole p) :
    (s.releaseOn r p).1 = afterReleases s p fun r' => decide (r' = r) := by
  have hround : (fun r' => s.releaseRound p r' (decide (r' = r))) = fun r' => if r' = r then s.releaseRound p r true else s.still r' := by
    funext r'
    split
    · next hr => rw [hr, decide_eq_true rfl]
    · next hr =>
      rw [decide_eq_false hr]
      rfl
  rw [s.releaseOn_eq h, afterReleases_eq, hround, State.rounds_single]

/-- What a release on every return reports of one (R88). -/
def State.releaseEntry (s : State) (p : Request → Bool) (r : ReturnId) : List (ReturnId × Released) :=
  if hit s.arbiter[r] p then [(r, released s.arbiter[r] p)] else []

/-- The releases on every return, in one event (R88, R97). -/
theorem State.releaseAll_eq (s : State) {p : Request → Bool} (h : ∀ r : ReturnId, s.arbiter[r].Sole p) :
    s.releaseAll p = (afterReleases s p fun _ => true, (List.finRange 24).flatMap (s.releaseEntry p)) := by
  unfold State.releaseAll
  rw [afterReleases_eq]
  refine foldl_rounds s _ _ _ fun t acc r ht => ?_
  have hround : t.releaseRound p r true = s.releaseRound p r true := by
    simp only [State.releaseRound, ht.arbitration, ht.record]
  dsimp only
  rw [t.releaseOn_eq (ht.arbitration ▸ h r), hround, ht.arbitration, State.releaseEntry]
  cases hit s.arbiter[r] p <;> simp

/-! ### The answer to a release on every return -/

theorem hits_eq_zero {s : State} {p : Request → Bool} : hits s p = 0 ↔ ∀ r : ReturnId, hit s.arbiter[r] p = false := by
  simp [hits, countReturns, List.filter_eq_nil_iff]

theorem removedCount_releaseEntry (s : State) (p : Request → Bool) :
    removedCount ((List.finRange 24).flatMap (s.releaseEntry p)) = hits s p := by
  unfold hits countReturns
  induction List.finRange 24 with
  | nil => rfl
  | cons r l ih =>
    simp only [removedCount, List.flatMap_cons, List.map_append, List.sum_append] at ih ⊢
    rw [ih, State.releaseEntry]
    cases hh : hit s.arbiter[r] p <;> simp [-Fin.getElem_fin, hh, released, Nat.add_comm]

theorem releaseEntry_isEmpty (s : State) (p : Request → Bool) :
    ((List.finRange 24).flatMap (s.releaseEntry p)).isEmpty = true ↔ hits s p = 0 := by
  simp [hits_eq_zero, State.releaseEntry]

theorem releaseBytes_eq (a : Arbitration) (p : Request → Bool) :
    releaseBytes a p = [flagByte (released a p).wasActive, indexByte (released a p).promoted] := by
  unfold releaseBytes released
  cases activeHit a p <;> rfl

theorem releaseTagBody_eq (s : State) (p : Request → Bool) :
    releaseTagBody ((List.finRange 24).flatMap (s.releaseEntry p)) = releaseBody s p := by
  have hentry : (fun r => (s.releaseEntry p r).flatMap fun x => [byteOf x.1.val, flagByte x.2.wasActive, indexByte x.2.promoted]) =
      fun r => if hit s.arbiter[r] p then byteOf r.val :: releaseBytes s.arbiter[r] p else [] := by
    funext r
    rw [State.releaseEntry, releaseBytes_eq]
    cases hit s.arbiter[r] p <;> rfl
  rw [releaseTagBody, removedCount_releaseEntry, List.flatMap_assoc, hentry]
  rfl

/-! ### The requests of an originator -/

theorem hit_byOriginator (a : Arbitration) (i : SourceId) : hit a (byOriginator i) = a.holds i := rfl

theorem byTag_eq (i : SourceId) (g : TagId) : byTag i g = fun q => decide (q.originator = i) && decide (q.via = .tag g) := by
  funext q
  exact Bool.decide_and ..

theorem Arbitration.Lawful.sole_byOriginator {a : Arbitration} (h : a.Lawful) (i : SourceId) : a.Sole (byOriginator i) :=
  h.sole fun _ _ hq => of_decide_eq_true hq

theorem Arbitration.Lawful.sole_byTag {a : Arbitration} (h : a.Lawful) (i : SourceId) (g : TagId) : a.Sole (byTag i g) :=
  h.sole fun _ _ hq => (of_decide_eq_true hq).1

/-- The one pending request of an originator leaves the list at its place (R68). -/
theorem filter_originator_eq_eraseIdx {l : List Request} (hd : (l.map Request.originator).Nodup) {n : Nat} {q : Request} {i : SourceId}
    (hn : l[n]? = some q) (hq : q.originator = i) : l.filter (fun e => !byOriginator i e) = l.eraseIdx n := by
  induction l generalizing n with
  | nil => simp at hn
  | cons x xs ih =>
    obtain ⟨hx, hxs⟩ := List.nodup_cons.mp hd
    cases n with
    | zero =>
      obtain rfl : x = q := by simpa using hn
      have hrest : xs.filter (fun e => !byOriginator i e) = xs := List.filter_eq_self.mpr fun e he => by
        have hne : e.originator ≠ i := fun hei => hx (List.mem_map.mpr ⟨e, he, hei.trans hq.symm⟩)
        simp [byOriginator, hne]
      rw [List.filter_cons_of_neg (by simp [byOriginator, hq]), hrest]
      rfl
    | succ n =>
      have hn : xs[n]? = some q := by simpa using hn
      have hne : x.originator ≠ i := fun hxi => hx (List.mem_map.mpr ⟨q, List.mem_of_getElem? hn, hq.trans hxi.symm⟩)
      rw [List.filter_cons_of_pos (by simp [byOriginator, hne]), ih hxs hn]
      rfl

end Sys2Proof.Machine

namespace Sys2Proof.Proofs

open Machine Claims

/-- Settles O38: the round of the return, where the originator has no request, a pending one, the active one. -/
theorem directReleaseRemovesTheRequest : Obligations.DirectReleaseRemovesTheRequest := by
  refine fun s o rb => ⟨fun hbad => completes_of_owner rfl rfl ?_, fun i r ho hk hr hlaw => ?_⟩
  · unfold ownerReleaseDirect
    split
    · next hi hr =>
      obtain hbad | hbad := hbad
      · rw [State.originatorArg_eq_none hbad] at hi
        cases hi
      · rw [directArg_eq_none hbad] at hr
        cases hr
    · rfl
  have hsole := hlaw.sole_byOriginator i
  have howner : ∀ (c : Round) (rel : Option Released), s.releaseRound (byOriginator i) r true = c →
      (if hit s.arbiter[r] (byOriginator i) then some (released s.arbiter[r] (byOriginator i)) else none) = rel →
      Completes (.releaseDirect o rb) .talkback 0x41 [o, BitVec.append (0#1) rb] s (s.round .interruptStarted r c)
        (rel.elim (refuse .notFound) fun x => ok [flagByte x.wasActive, indexByte x.promoted]) := by
    rintro c rel rfl hrel
    refine completes_of_owner rfl rfl ?_
    simp only [ownerReleaseDirect, State.originatorArg_of_names ho hk, directArg_eq_some hr, s.releaseOn_eq hsole, hrel]
    cases rel <;> rfl
  refine ⟨fun hn => ?_, fun n q hn hq => ?_, fun x hx hxi => ?_⟩
  · have hhit : hit s.arbiter[r] (byOriginator i) = false :=
      Bool.eq_false_iff.mpr (mt Arbitration.holds_iff.mp hn)
    have h := howner _ none (State.releaseRound_of_not_hit hhit) (by rw [hhit]; rfl)
    rwa [State.round_still] at h
  · have hmem := List.mem_of_getElem? hn
    have hactive : activeHit s.arbiter[r] (byOriginator i) = false := Bool.eq_false_iff.mpr fun h => by
      have := hsole.activeAlone h q hmem
      simp [byOriginator, hq] at this
    have hhit : hit s.arbiter[r] (byOriginator i) = true := by
      rw [hit_byOriginator, Arbitration.holds_iff]
      exact .inr ⟨q, hmem, hq⟩
    have h := howner
      { arbitration := { s.arbiter[r] with waiting := s.arbiter[r].waiting.eraseIdx n }, record := s.returns[r]
        marks := false, notes := false }
      (some { number := 1, wasActive := false, promoted := none })
      (by simp [-Fin.getElem_fin, State.releaseRound, hactive, afterRelease, filter_originator_eq_eraseIdx hlaw.distinct hn hq])
      (by simp [-Fin.getElem_fin, hhit, released, hactive])
    rwa [State.round_arbitration] at h
  · have hactive : activeHit s.arbiter[r] (byOriginator i) = true := activeHit_iff.mpr ⟨x, hx, decide_eq_true hxi⟩
    have h := howner
      { arbitration := promoted s.arbiter[r].waiting, record := s.returns[r], marks := true
        notes := !s.arbiter[r].waiting.isEmpty }
      (some { number := 1, wasActive := true, promoted := (promoted s.arbiter[r].waiting).originator })
      (by simp [-Fin.getElem_fin, State.releaseRound, hactive, afterRelease])
      (by simp [-Fin.getElem_fin, hit, released, hactive])
    rw [State.round_arbitration, if_pos rfl, markQueue_eq] at h
    cases hw : s.arbiter[r].waiting with
    | nil =>
      rw [hw] at h
      exact h
    | cons e es =>
      rw [hw] at h
      exact h

/-- Settles O39: the rounds of every return, and the answer over those that held the request. -/
theorem tagReleaseRemovesTheTagsRequests : Obligations.TagReleaseRemovesTheTagsRequests := by
  refine fun s o tb => ⟨fun hbad => completes_of_owner rfl rfl ?_, fun i t ho hk ht hlaw => ?_⟩
  · unfold ownerReleaseTag
    split
    · next hi hg =>
      obtain hbad | hbad | hbad := hbad
      · rw [State.originatorArg_eq_none hbad] at hi
        cases hi
      · rw [tagNumber_eq_none (.inl (by rw [hbad]; rfl))] at hg
        cases hg
      · rw [tagNumber_eq_none (.inr hbad)] at hg
        cases hg
    · rfl
  rw [← byTag_eq]
  have howner : ownerReleaseTag o tb s = (afterReleases s (byTag i t) fun _ => true,
      if ((List.finRange 24).flatMap (s.releaseEntry (byTag i t))).isEmpty then refuse .notFound
      else ok (releaseBody s (byTag i t))) := by
    simp only [ownerReleaseTag, State.originatorArg_of_names ho hk, tagNumber_eq_some ht,
      s.releaseAll_eq fun r => (hlaw r).sole_byTag i t, releaseTagBody_eq]
  refine ⟨fun hnone => completes_of_owner rfl rfl ?_, fun hsome => completes_of_owner rfl rfl ?_⟩
  · have hstill : afterReleases s (byTag i t) (fun _ => true) = s := by
      rw [afterReleases_eq]
      exact s.rounds_still .interruptStarted fun r => State.releaseRound_of_not_hit (hits_eq_zero.mp hnone r)
    rw [howner, hstill, if_pos ((releaseEntry_isEmpty ..).mpr hnone)]
  · rw [howner, if_neg (mt (releaseEntry_isEmpty ..).mp (Nat.pos_iff_ne_zero.mp hsome))]

end Sys2Proof.Proofs
end

section
/-! ## SET TALK LEVEL, CLEAR REFUSALS and SET TAGS -/

namespace Sys2Proof.Machine

open Claims

/-! ### SET TALK LEVEL and CLEAR REFUSALS -/

/-- The rows whose active request is a source's (R77). -/
theorem State.talkingRow_eq (s : State) (i : SourceId) :
    s.talkingRow i = returnRows fun r => activeHit s.arbiter[r] fun q => decide (q.originator = i) := by
  funext ρ
  cases ρ <;> rfl

/-- A table read in order is read by its indices. -/
theorem toList_flatMap {α β : Type} {n : Nat} (v : Vector α n) (f : α → List β) :
    v.toList.flatMap f = (List.finRange n).flatMap fun i => f v[i] := by
  have h : v.toList = (List.finRange n).map fun i => v[i] := by
    apply List.ext_getElem <;> simp
  rw [h, List.flatMap_map]

theorem setTalkLevel_completes (s : State) (b : Byte) (l : Coeff) :
    (NoOriginator s b → Completes (.setTalkLevel b l) .talkback 0x42 (b :: be16 l) s s (refuse .invalid)) ∧
    (∀ i : SourceId, Names b i → s.sources[i].kind = .talkback →
      Completes (.setTalkLevel b l) .talkback 0x42 (b :: be16 l) s
        { s with
          sources := s.sources.set i { s.sources[i] with talkLevel := l }
          queue := joinQueue s.queue
            (returnRows fun r => activeHit s.arbiter[r] fun q => decide (q.originator = i)) false } (ok [])) := by
  refine ⟨fun h => completes_of_owner rfl rfl ?_, fun i hb hk => completes_of_owner rfl rfl ?_⟩
  · rw [ownerSetTalkLevel, State.originatorArg_eq_none h]
  · rw [ownerSetTalkLevel, State.originatorArg_of_names hb hk]
    dsimp only
    rw [State.markRows_eq, State.talkingRow_eq]
    rfl

theorem clearRefusals_completes (s : State) (b : Byte) :
    (24 ≤ b.toNat → b ≠ 0xFF → Completes (.clearRefusals b) .talkback 0x47 [b] s s (refuse .invalid)) ∧
    (∀ r : ReturnId, Names b r → Completes (.clearRefusals b) .talkback 0x47 [b] s
      { s with returns := s.returns.set r { s.returns[r] with refusals := 0 } } (ok (count16 s.returns[r].refusals))) ∧
    (b = 0xFF → Completes (.clearRefusals b) .talkback 0x47 [b] s
      { s with returns := Vector.ofFn fun r => { s.returns[r] with refusals := 0 } }
      (ok ((List.finRange 24).flatMap fun r => count16 s.returns[r].refusals))) := by
  refine ⟨fun h hn => completes_of_owner rfl rfl ?_, fun r hr => completes_of_owner rfl rfl ?_, ?_⟩
  · rw [ownerClearRefusals, optionArg_eq_none hn h]
  · rw [ownerClearRefusals, optionArg_of_names (by decide) hr]
    rfl
  · rintro rfl
    refine completes_of_owner rfl rfl ?_
    rw [ownerClearRefusals, optionArg_noneByte, ← toList_flatMap s.returns fun x => count16 x.refusals]

/-! ### SET TAGS -/

theorem tagPositionArg_byte (t : Option TagId) : tagPositionArg (tagPositionByte t) = some t := by
  cases t with
  | none => rfl
  | some t =>
    revert t
    decide

theorem tagPositionArg_eq_none {b : Byte} (h : 16 ≤ b.toNat) : tagPositionArg b = none := by
  have hb : b ≠ 0 := by
    rintro rfl
    exact absurd h (by decide)
  rw [tagPositionArg, if_neg hb, tagNumber_eq_none (.inr h)]
  rfl

theorem deafArg_byte (m : DeafMode) : deafArg m.byte = some m := by cases m <;> rfl

theorem deafArg_eq_none {b : Byte} (h : 3 ≤ b.toNat) : deafArg b = none := by
  unfold deafArg
  split
  · omega
  · omega
  · omega
  · rfl

/-- A tag named twice (R82 check 4), by the bytes of the positions. -/
theorem tagsRepeat_iff (t0 t1 t2 : Option TagId) :
    tagsRepeat t0 t1 t2 = true ↔
      (tagPositionByte t0 ≠ 0 ∧ (tagPositionByte t0 = tagPositionByte t1 ∨ tagPositionByte t0 = tagPositionByte t2)) ∨
        (tagPositionByte t1 ≠ 0 ∧ tagPositionByte t1 = tagPositionByte t2) := by
  have habsent : ∀ t : Option TagId, tagPositionByte t = 0 ↔ t = none := fun t => tagPositionByte_inj (b := none)
  simp only [ne_eq, habsent, tagPositionByte_inj, tagsRepeat, Bool.or_eq_true, Bool.and_eq_true, decide_eq_true_eq,
    Option.isSome_iff_ne_none, and_or_left]

theorem setTags_completes (s : State) (rb b0 b1 b2 d : Byte) :
    let tags (t : State) (a : Answer) : Prop := Completes (.setTags rb b0 b1 b2 d) .talkback 0x44 [rb, b0, b1, b2, d] s t a
    let repeated : Prop := (b0 ≠ 0 ∧ (b0 = b1 ∨ b0 = b2)) ∨ (b1 ≠ 0 ∧ b1 = b2)
    (24 ≤ rb.toNat ∨ 16 ≤ b0.toNat ∨ 16 ≤ b1.toNat ∨ 16 ≤ b2.toNat ∨ 3 ≤ d.toNat → tags s (refuse .invalid)) ∧
    ∀ (r : ReturnId) (t0 t1 t2 : Option TagId) (m : DeafMode),
      Names rb r → b0 = tagPositionByte t0 → b1 = tagPositionByte t1 → b2 = tagPositionByte t2 → d = m.byte →
      (repeated → tags s (refuse .duplicate)) ∧
      (¬ repeated → tags
        { s with returns := s.returns.set r { s.returns[r] with tags := #v[t0, t1, t2], deaf := m } }
        (ok (s.returns[r].tags.toList.map tagPositionByte ++ [s.returns[r].deaf.byte]))) := by
  refine ⟨fun hbad => completes_of_owner rfl rfl ?_, ?_⟩
  · unfold ownerSetTags
    split
    · next hr h0 h1 h2 hd =>
      obtain hbad | hbad | hbad | hbad | hbad := hbad
      · rw [indexArg_eq_none.mpr hbad] at hr
        cases hr
      · rw [tagPositionArg_eq_none hbad] at h0
        cases h0
      · rw [tagPositionArg_eq_none hbad] at h1
        cases h1
      · rw [tagPositionArg_eq_none hbad] at h2
        cases h2
      · rw [deafArg_eq_none hbad] at hd
        cases hd
    · rfl
  · rintro r t0 t1 t2 m hr rfl rfl rfl rfl
    refine ⟨fun h => completes_of_owner rfl rfl ?_, fun h => completes_of_owner rfl rfl ?_⟩ <;>
      simp only [ownerSetTags, indexArg_eq_some.mpr hr, tagPositionArg_byte, deafArg_byte]
    · rw [if_pos ((tagsRepeat_iff ..).mpr h)]
    · rw [if_neg (mt (tagsRepeat_iff ..).mp h)]
      rfl

end Sys2Proof.Machine

namespace Sys2Proof.Proofs

open Machine Claims

/-- Settles O40, command by command. -/
theorem talkSettingsAreWritten : Obligations.TalkSettingsAreWritten := by
  refine ⟨fun s b l => ?_, setTags_completes⟩
  obtain ⟨hnone, hlevel⟩ := setTalkLevel_completes s b l
  exact ⟨hnone, hlevel, clearRefusals_completes s b⟩

end Sys2Proof.Proofs
end

section
/-! ## Key acceptances

A key's TALK and RELEASE for its binding (R80, R95), and an acceptance at the end of a debounce wait (R90, R92 to R94). -/

namespace Sys2Proof.Machine

open Claims

variable {s : State}

/-! ### The requests of a binding -/

theorem countReturns_single (r : ReturnId) (p : ReturnId → Bool) :
    countReturns (fun q => decide (q = r) && p q) = if p r then 1 else 0 := by
  have hp : (fun q => decide (q = r) && p q) = fun q => decide (q = r) && p r := by
    funext q
    by_cases h : q = r
    · rw [h]
    · simp [h]
  rw [hp]
  cases p r <;> simp [countReturns, filter_single]

section Target

variable {b : Binding} {r : ReturnId} {g : TagId}

theorem keyRequest_ret (h : b.target = .ret r) : keyRequest b = byOriginator b.originator := by
  unfold keyRequest
  rw [h]
  rfl

theorem keyRequest_tag (h : b.target = .tag g) : keyRequest b = byTag b.originator g := by
  unfold keyRequest
  rw [h, byTag_eq]

theorem keyReach_ret (h : b.target = .ret r) : keyReach b = fun q => decide (q = r) := by
  unfold keyReach
  rw [h]

theorem keyReach_tag (h : b.target = .tag g) : keyReach b = fun _ => true := by
  unfold keyReach
  rw [h]

theorem keyHits_ret (h : b.target = .ret r) : keyHits s b = if hit s.arbiter[r] (byOriginator b.originator) then 1 else 0 := by
  rw [keyHits, keyReach_ret h, keyRequest_ret h, countReturns_single r fun q => hit s.arbiter[q] (byOriginator b.originator)]

theorem keyHits_tag (h : b.target = .tag g) : keyHits s b = hits s (byTag b.originator g) := by
  simp only [keyHits, keyReach_tag h, keyRequest_tag h, Bool.true_and, hits]

end Target

theorem keyHits_congr {t : State} (h : t.arbiter = s.arbiter) (b : Binding) : keyHits t b = keyHits s b := by
  simp only [keyHits, h]

/-- A LATCH key's press looks for the requests that its RELEASE would remove (R94). -/
theorem State.keyFinds_iff (s : State) (b : Binding) : s.keyFinds b = true ↔ keyHits s b ≠ 0 := by
  cases hb : b.target with
  | ret r =>
    have hfinds : s.keyFinds b = s.arbiter[r].holds b.originator := by rw [State.keyFinds, hb]
    rw [hfinds, keyHits_ret hb, hit_byOriginator]
    cases s.arbiter[r].holds b.originator <;> decide
  | tag g =>
    have hfinds : s.keyFinds b = (List.finRange 24).any fun r => hit s.arbiter[r] (byTag b.originator g) := by
      rw [State.keyFinds, hb]
      rfl
    rw [hfinds, keyHits_tag hb, ne_eq, hits_eq_zero]
    simp

/-! ### A key's TALK and RELEASE -/

theorem State.recordOutcome_eq (t : State) (o : KeyOutcome) (n : KeyId) : State.recordOutcome (t, o) n = withOutcome t n o := rfl

/-- A key's TALK is that of its binding (R80, R93, R95). -/
theorem State.keyTalk_eq (s : State) (n : KeyId) (b : Binding) : State.recordOutcome (s.keyTalk n b) n = afterKeyTalk s n b := by
  unfold State.keyTalk afterKeyTalk
  cases b.target with
  | ret r =>
    dsimp only
    rw [State.talkOn_direct]
    cases (decision s r (directRequest b.originator r b.mode b.priority b.holdCode (.key n))).1 <;> rfl
  | tag g =>
    dsimp only
    rw [State.talkGroup_eq]
    dsimp only
    rw [talkCounts_group, State.recordOutcome_eq]
    rfl

/-- A key's RELEASE is that of its binding, where the requests of an originator are one on each return at most (R80, R93, R95). -/
theorem State.keyRelease_eq (h : s.ArbiterLawful) (n : KeyId) (b : Binding) :
    State.recordOutcome (s.keyRelease b) n = afterKeyRelease s n b := by
  unfold afterKeyRelease
  cases hb : b.target with
  | ret r =>
    have hsole := (h r).sole_byOriginator b.originator
    have hkey : s.keyRelease b = (afterReleases s (byOriginator b.originator) fun q => decide (q = r),
        if hit s.arbiter[r] (byOriginator b.originator) then .released 1 else .notFound) := by
      rw [State.keyRelease, hb, ← s.releaseOn_direct hsole]
      dsimp only
      rw [s.releaseOn_eq hsole]
      cases hit s.arbiter[r] (byOriginator b.originator) <;> rfl
    rw [hkey, keyRequest_ret hb, keyReach_ret hb, keyHits_ret hb]
    cases hit s.arbiter[r] (byOriginator b.originator) <;> rfl
  | tag g =>
    have hall := s.releaseAll_eq fun r => (h r).sole_byTag b.originator g
    have hkey : s.keyRelease b = ((s.releaseAll (byTag b.originator g)).1,
        if (s.releaseAll (byTag b.originator g)).2.isEmpty then .notFound
        else .released (removedCount (s.releaseAll (byTag b.originator g)).2)) := by
      rw [State.keyRelease, hb]
    rw [hkey, hall, keyRequest_tag hb, keyReach_tag hb, keyHits_tag hb, removedCount_releaseEntry]
    simp only [releaseEntry_isEmpty, State.recordOutcome_eq]

/-! ### Keys and the other tables -/

theorem State.raiseEach_setKey (s : State) (k : NoticeKind) (is : List Nat) (n : KeyId) (x : Key) :
    (s.setKey n x).raiseEach k is = (s.raiseEach k is).setKey n x := by
  induction is generalizing s with
  | nil => rfl
  | cons i is ih => exact ih (s.raise k i)

/-- Releases neither read a key nor write one. -/
theorem afterReleases_setKey (s : State) (p : Request → Bool) (looks : ReturnId → Bool) (n : KeyId) (x : Key) :
    afterReleases (s.setKey n x) p looks = (afterReleases s p looks).setKey n x := by
  unfold afterReleases
  rw [← State.raiseEach_setKey]
  rfl

theorem afterReleases_keys (s : State) (p : Request → Bool) (looks : ReturnId → Bool) : (afterReleases s p looks).keys = s.keys := by
  unfold afterReleases
  rw [State.raiseEach_frame]

/-- Press counted may be cleared before the RELEASE or after it (R93). -/
theorem afterKeyRelease_uncounted (s : State) (n : KeyId) (b : Binding) :
    (afterKeyRelease s n b).setKey n { (afterKeyRelease s n b).keys[n] with pressCounted := false } =
      afterKeyRelease (s.setKey n { s.keys[n] with pressCounted := false }) n b := by
  have hhits : keyHits (s.setKey n { s.keys[n] with pressCounted := false }) b = keyHits s b := keyHits_congr rfl b
  simp only [afterKeyRelease, withOutcome, hhits, afterReleases_setKey, State.setKey_setKey, State.setKey_same, afterReleases_keys]

end Sys2Proof.Machine

namespace Sys2Proof.Machine

open Claims

/-! ### An acceptance -/

/-- The state after KEY EVENT, the line's level accepted and press counted recorded (R90, R92). -/
def State.keyEvent (s : State) (n : KeyId) (counted : Bool) : State :=
  (s.setKey n { s.keys[n] with accepted := s.keys[n].line, debounce := .idle, pressCounted := counted }).raise .keyEvent n.val

variable {s : State} {n : KeyId} {b : Binding}

theorem State.keyEvent_counted (s : State) (n : KeyId) (c d : Bool) :
    (s.keyEvent n c).setKey n { (s.keyEvent n c).keys[n] with pressCounted := d } = s.keyEvent n d := by
  have hkey : (s.keyEvent n c).keys[n] =
      { s.keys[n] with accepted := s.keys[n].line, debounce := .idle, pressCounted := c } := State.setKey_same ..
  rw [hkey]
  exact congrArg (fun t : State => t.raise .keyEvent n.val) (s.setKey_setKey n _ _)

theorem State.keyEvent_arbiter (s : State) (n : KeyId) (counted : Bool) : (s.keyEvent n counted).arbiter = s.arbiter := rfl

theorem State.keyEvent_key (s : State) (n : KeyId) (counted : Bool) : (s.keyEvent n counted).keys[n] =
    { s.keys[n] with accepted := s.keys[n].line, debounce := .idle, pressCounted := counted } := State.setKey_same ..

theorem State.acceptKey_unbound (h : s.keys[n].binding = none) :
    s.acceptKey n = s.setKey n { s.keys[n] with accepted := s.keys[n].line, debounce := .idle, pressCounted := false } := by
  unfold State.acceptKey
  dsimp only
  rw [h]
  dsimp only
  rw [State.setKey_setKey, State.setKey_same]

/-- An acceptance of a bound key raises KEY EVENT and goes on as a press or a release (R92). -/
theorem State.acceptKey_bound (h : s.keys[n].binding = some b) :
    s.acceptKey n = if s.keys[n].line = s.keys[n].pressLevel then (s.keyEvent n s.keys[n].pressCounted).pressKey n b
      else (s.keyEvent n s.keys[n].pressCounted).releaseKey n b := by
  unfold State.acceptKey
  dsimp only
  split
  · next hb =>
    rw [h] at hb
    cases hb
  · next c hc =>
    obtain rfl := Option.some.inj (h.symm.trans hc)
    rfl

theorem State.pressKey_talks (hm : s.keys[n].keyMode = .momentary ∨ keyHits s b = 0) (c : Bool) :
    (s.keyEvent n c).pressKey n b = afterKeyTalk (s.keyEvent n true) n b := by
  unfold State.pressKey
  rw [State.keyEvent_counted, State.keyEvent_key]
  dsimp only
  cases hk : s.keys[n].keyMode with
  | momentary => exact State.keyTalk_eq ..
  | latch =>
    have hnone : keyHits s b = 0 := hm.resolve_left fun h => by
      rw [hk] at h
      cases h
    have hfinds : ¬ (s.keyEvent n true).keyFinds b = true := by
      rw [State.keyFinds_iff, keyHits_congr (s.keyEvent_arbiter n true)]
      exact not_not.mpr hnone
    dsimp only
    rw [if_neg hfinds, State.keyTalk_eq]

theorem State.pressKey_releases (hs : s.ArbiterLawful) (hm : s.keys[n].keyMode = .latch) (hb : keyHits s b ≠ 0) (c : Bool) :
    (s.keyEvent n c).pressKey n b = afterKeyRelease (s.keyEvent n true) n b := by
  have hfinds : (s.keyEvent n true).keyFinds b = true := by
    rw [State.keyFinds_iff, keyHits_congr (s.keyEvent_arbiter n true)]
    exact hb
  have hlaw : (s.keyEvent n true).ArbiterLawful := hs
  unfold State.pressKey
  rw [State.keyEvent_counted, State.keyEvent_key]
  dsimp only
  rw [hm]
  dsimp only
  rw [if_pos hfinds, State.keyRelease_eq hlaw]

theorem State.releaseKey_of_counted (hm : s.keys[n].keyMode = .momentary) (hc : s.keys[n].pressCounted = true) :
    s.releaseKey n b = (State.recordOutcome (s.keyRelease b) n).setKey n
      { (State.recordOutcome (s.keyRelease b) n).keys[n] with pressCounted := false } := by
  unfold State.releaseKey
  rw [hm, hc]

theorem State.releaseKey_of_not_counted (h : s.keys[n].keyMode = .latch ∨ s.keys[n].pressCounted = false) :
    s.releaseKey n b = s.setKey n { s.keys[n] with pressCounted := false } := by
  unfold State.releaseKey
  split
  · next hm hc =>
    rw [hm, hc] at h
    cases h <;> contradiction
  · rfl
  · rfl

theorem State.releaseKey_releases (hs : s.ArbiterLawful) (hm : s.keys[n].keyMode = .momentary) :
    (s.keyEvent n true).releaseKey n b = afterKeyRelease (s.keyEvent n false) n b := by
  have hlaw : (s.keyEvent n true).ArbiterLawful := hs
  have hkey := s.keyEvent_key n true
  rw [State.releaseKey_of_counted (by rw [hkey]; exact hm) (by rw [hkey]), State.keyRelease_eq hlaw, afterKeyRelease_uncounted,
    State.keyEvent_counted]

theorem State.releaseKey_rests {c : Bool} (hm : s.keys[n].keyMode = .latch ∨ c = false) :
    (s.keyEvent n c).releaseKey n b = s.keyEvent n false := by
  rw [State.releaseKey_of_not_counted (by rw [State.keyEvent_key]; exact hm), State.keyEvent_counted]

end Sys2Proof.Machine

namespace Sys2Proof.Proofs

open Machine Claims

/-- Settles O43: an acceptance by binding, level, key mode and what the key finds. -/
theorem keyAcceptancesActOnTheBinding : Obligations.KeyAcceptancesActOnTheBinding := by
  refine fun s n hr hs => ⟨fun hd => ?_, fun left hd => ?_⟩
  · have hrests : s.keys[n].debounce.running = false := by rw [hd]; rfl
    show s.whenever s.keys[n].debounce.running (s.acceptKey n) = .next s
    rw [hrests, State.whenever_false]
  have hruns : s.keys[n].debounce.running = true := by rw [hd]; rfl
  have haccepts : exec (.keyAcceptance n) s = .next (s.acceptKey n) := by
    show s.whenever s.keys[n].debounce.running (s.acceptKey n) = _
    rw [hruns, State.whenever_of _ hr]
  have hpress : ∀ b, s.keys[n].binding = some b → s.keys[n].line = s.keys[n].pressLevel →
      exec (.keyAcceptance n) s = .next ((s.keyEvent n s.keys[n].pressCounted).pressKey n b) := fun b hb hl => by
    rw [haccepts, State.acceptKey_bound hb, if_pos hl]
  have hrelease : ∀ b, s.keys[n].binding = some b → s.keys[n].line ≠ s.keys[n].pressLevel →
      exec (.keyAcceptance n) s = .next ((s.keyEvent n s.keys[n].pressCounted).releaseKey n b) := fun b hb hl => by
    rw [haccepts, State.acceptKey_bound hb, if_neg hl]
  refine ⟨fun hb => by rw [haccepts, State.acceptKey_unbound hb], fun b hb => ⟨fun hl hm => ?_, fun hl hm hk => ?_, fun hl hm hc => ?_,
    fun hl hm => ?_⟩⟩
  · exact (hpress b hb hl).trans (congrArg _ (State.pressKey_talks hm _))
  · exact (hpress b hb hl).trans (congrArg _ (State.pressKey_releases hs.arbiter hm hk _))
  · rw [hrelease b hb hl, hc]
    exact congrArg _ (State.releaseKey_releases hs.arbiter hm)
  · exact (hrelease b hb hl).trans (congrArg _ (State.releaseKey_rests hm))

end Sys2Proof.Proofs
end

section
/-! ## Codes

The numbers that the bytes of tags, targets and rows carry (R169). -/

namespace Sys2Proof.Machine

theorem byteOf_toNat {n : Nat} (h : n < 256) : (byteOf n).toNat = n := by
  rw [byteOf, BitVec.toNat_ofNat, Nat.mod_eq_of_lt h]

theorem tagByte_toNat (t : TagId) : (tagByte t).toNat = t.val + 1 := byteOf_toNat (by omega)

theorem Target.ret_byte_toNat (r : ReturnId) : (Target.ret r).byte.toNat = r.val := byteOf_names r (by decide)

theorem Target.tag_byte_toNat (t : TagId) : (Target.tag t).byte.toNat = 0x80 + (t.val + 1) := byteOf_toNat (by omega)

theorem rowByte_toNat (ρ : Row) : (rowByte ρ).toNat = (rowIndex ρ).val := by
  cases ρ with
  | ret r => exact byteOf_names r (by decide)
  | program => rfl

end Sys2Proof.Machine

namespace Sys2Proof.Proofs

open Machine

/-- Settles O16: the enumerations value by value, the index bytes for every index, the outcomes for every operand. -/
theorem codesAndPlacesAreThoseOfTheTables : Obligations.CodesAndPlacesAreThoseOfTheTables := by
  refine ⟨?resultCodes, ?enumerations, ⟨?returns, ?programRow, ?tags, ?absentTag, ?direct, ?keys, ?port, ?sources, ?noSource⟩,
    ?talkOutcomes, ?keyOutcomes, ?notices⟩
  case returns => exact fun r => ⟨Target.ret_byte_toNat r, rowByte_toNat (.ret r)⟩
  case programRow => exact rowByte_toNat .program
  case tags => exact fun t => ⟨Target.tag_byte_toNat t, tagByte_toNat t, tagByte_toNat t⟩
  case keys => exact fun n => byteOf_names n (by decide)
  case sources => exact fun i => byteOf_names i (by decide)
  case resultCodes | absentTag | direct | port | noSource => rfl
  case enumerations | notices => decide
  case talkOutcomes => exact ⟨fun _ _ => rfl, fun _ => rfl, fun _ => rfl⟩
  case keyOutcomes => exact ⟨rfl, rfl, fun _ => rfl, fun _ => rfl, rfl, fun _ => ⟨rfl, fun _ => rfl⟩⟩

end Sys2Proof.Proofs
end

section
/-! ## BIND KEY and UNBIND KEY

The bytes of a key's request template (R96, R169), and the release of what a key holds (R97). -/

namespace Sys2Proof.Machine

open Claims

/-! ### The arguments of a binding -/

theorem targetArg_byte (g : Target) : targetArg g.byte = some g := by
  cases g with
  | ret r =>
    have hb := Target.ret_byte_toNat r
    rw [targetArg, if_pos (by omega), indexArg_eq_some.mpr hb, Option.map_some]
  | tag t =>
    rw [targetArg, Target.tag_byte_toNat, if_neg (by omega), tagNumber_eq_some (Nat.add_sub_cancel_left ..), Option.map_some]

theorem targetArg_eq_none {b : Byte} (h : (24 ≤ b.toNat ∧ b.toNat ≤ 0x80) ∨ 0x90 ≤ b.toNat) : targetArg b = none := by
  unfold targetArg
  split
  · rw [indexArg_eq_none.mpr (by omega), Option.map_none]
  · rw [tagNumber_eq_none (by omega), Option.map_none]

theorem levelArg_byte (l : Level) : levelArg (levelByte l) = some l := by cases l <;> rfl

theorem levelArg_eq_none {b : Byte} (h : 2 ≤ b.toNat) : levelArg b = none := by
  unfold levelArg
  split
  · omega
  · omega
  · rfl

theorem keyModeArg_byte (m : KeyMode) : keyModeArg m.byte = some m := by cases m <;> rfl

theorem keyModeArg_eq_none {b : Byte} (h : 2 ≤ b.toNat) : keyModeArg b = none := by
  unfold keyModeArg
  split
  · omega
  · omega
  · rfl

variable {s : State}

theorem State.bindArgs_eq_none {o g m p h l km : Byte}
    (hbad : NoOriginator s o ∨ (24 ≤ g.toNat ∧ g.toNat ≤ 0x80) ∨ 0x90 ≤ g.toNat ∨ 2 ≤ m.toNat ∨ 4 ≤ p.toNat ∨ 2 ≤ l.toNat ∨
      2 ≤ km.toNat) : s.bindArgs o g m p h l km = none := by
  unfold State.bindArgs
  split
  · next ho hg hm hp hl hkm =>
    obtain hbad | hbad | hbad | hbad | hbad | hbad | hbad := hbad
    · rw [State.originatorArg_eq_none hbad] at ho
      cases ho
    · rw [targetArg_eq_none (.inl hbad)] at hg
      cases hg
    · rw [targetArg_eq_none (.inr hbad)] at hg
      cases hg
    · rw [modeArg_eq_none hbad] at hm
      cases hm
    · rw [indexArg_eq_none.mpr hbad] at hp
      cases hp
    · rw [levelArg_eq_none hbad] at hl
      cases hl
    · rw [keyModeArg_eq_none hbad] at hkm
      cases hkm
  · rfl

/-- BIND KEY reads the template whose fields its bytes carry (R96, R169). -/
theorem State.bindArgs_of {o p h : Byte} {i : SourceId} {pr : Fin 4} {code : Fin 8} (ho : Names o i)
    (hk : s.sources[i].kind = .talkback) (hp : Names p pr) (hcode : code.val = min h.toNat 7) (g : Target) (m : Mode) (l : Level)
    (km : KeyMode) : s.bindArgs o g.byte m.byte p h (levelByte l) km.byte =
      some ({ originator := i, target := g, mode := m, priority := pr, holdCode := code }, l, km) := by
  simp only [State.bindArgs, State.originatorArg_of_names ho hk, targetArg_byte, modeArg_byte, indexArg_eq_some.mpr hp, levelArg_byte,
    keyModeArg_byte, holdCodeArg_eq hcode]

/-! ### The requests of a key -/

variable {n : KeyId}

theorem byKey_eq (n : KeyId) : byKey n = ofKey n := rfl

theorem afterReleases_of_no_hits {p : Request → Bool} (h : hits s p = 0) : afterReleases s p (fun _ => true) = s := by
  rw [afterReleases_eq]
  exact s.rounds_still .interruptStarted fun r => State.releaseRound_of_not_hit (hits_eq_zero.mp h r)

theorem hit_eq_false {a : Arbitration} {p : Request → Bool} (h : ∀ q ∈ a.requests, p q = false) : hit a p = false := by
  rw [hit, Bool.or_eq_false_iff]
  refine ⟨Bool.eq_false_iff.mpr fun hx => ?_, List.any_eq_false.mpr fun q hq => ?_⟩
  · obtain ⟨x, hx, hp⟩ := activeHit_iff.mp hx
    rw [h x.request (Arbitration.mem_requests.mpr (.inl ⟨x, hx, rfl⟩))] at hp
    cases hp
  · rw [h q (Arbitration.mem_requests.mpr (.inr hq))]
    decide

/-- An unbound key has no request (R96, R97). -/
theorem State.TablesLawful.hits_ofKey_unbound (h : s.TablesLawful) (hb : s.keys[n].binding = none) : hits s (ofKey n) = 0 :=
  hits_eq_zero.mpr fun _ => hit_eq_false fun _ hq => decide_eq_false fun ho => by
    obtain ⟨b, hsome, _⟩ := h.requestOwned hq ho
    rw [hb] at hsome
    cases hsome

/-- The requests of a bound key are its binding's originator's, so that a return holds one of them at most (R57, R96). -/
theorem State.Lawful.sole_ofKey (h : s.Lawful) {b : Binding} (hb : s.keys[n].binding = some b) (r : ReturnId) :
    s.arbiter[r].Sole (ofKey n) :=
  (h.arbiter r).sole (i := b.originator) fun q hq ho => by
    obtain ⟨c, hc, horiginator⟩ := h.tables.requestOwned hq (of_decide_eq_true ho)
    obtain rfl := Option.some.inj (hb.symm.trans hc)
    exact horiginator.symm

/-- A bound key unbound, with the number of its requests (R97). -/
theorem State.Lawful.unbind_eq (h : s.Lawful) {b : Binding} (hb : s.keys[n].binding = some b) :
    s.unbind n = ((afterReleases s (ofKey n) fun _ => true).setKey n { s.keys[n] with binding := none, pressCounted := false },
      hits s (ofKey n)) := by
  unfold State.unbind
  rw [byKey_eq, s.releaseAll_eq (h.sole_ofKey hb)]
  dsimp only
  rw [removedCount_releaseEntry, afterReleases_keys]

/-! ### BIND KEY and UNBIND KEY at the Key Input Block -/

theorem priorBytes_eq (p : Option Binding) : priorBytes p = flagByte p.isSome :: bindingBytes p := by cases p <;> rfl

/-- BIND KEY with a template, on a key that is bound or not (R96). -/
theorem State.Lawful.ownerBindKey_eq (hs : s.Lawful) {kb o g m p h l km : Byte} {b : Binding} {level : Level} {keyMode : KeyMode}
    (hkey : Names kb n) (hargs : s.bindArgs o g m p h l km = some (b, level, keyMode)) :
    ownerBindKey kb o g m p h l km s =
      ((afterReleases s (ofKey n) fun _ => true).setKey n { s.keys[n] with
          binding := some b, pressLevel := level, keyMode := keyMode, pressCounted := false, lastOutcome := .none },
        ok (priorBytes s.keys[n].binding ++ count16 (hits s (ofKey n)))) := by
  simp only [ownerBindKey, indexArg_eq_some.mpr hkey, hargs, priorBytes_eq]
  cases hprior : s.keys[n].binding with
  | none =>
    have hnone := hs.tables.hits_ofKey_unbound hprior
    rw [afterReleases_of_no_hits hnone, hnone]
    rfl
  | some c =>
    rw [Option.isSome_some, if_pos rfl, hs.unbind_eq hprior, State.setKey_setKey, State.setKey_same]
    rfl

end Sys2Proof.Machine

namespace Sys2Proof.Proofs

open Machine Claims

/-- Settles O41: a bound key is unbound first, and an unbound one holds nothing to release. -/
theorem bindKeyAndUnbindKeyReleaseTheKeysRequests : Obligations.BindKeyAndUnbindKeyReleaseTheKeysRequests := by
  refine ⟨fun s kb o g m p h l km => ⟨fun hbad => completes_of_owner rfl rfl ?_, ?_⟩,
    fun s kb => ⟨fun hbad => completes_of_owner rfl rfl ?_, fun n hs hkey => ⟨fun hb => completes_of_owner rfl rfl ?_,
      fun hb => completes_of_owner rfl rfl ?_⟩⟩⟩
  · unfold ownerBindKey
    split
    · next hkey hargs =>
      obtain hbad | hbad := hbad
      · rw [indexArg_eq_none.mpr hbad] at hkey
        cases hkey
      · rw [State.bindArgs_eq_none hbad] at hargs
        cases hargs
    · rfl
  · rintro n i g mode pr code level keyMode hs hkey ho hk rfl rfl hp hcode rfl rfl
    exact completes_of_owner rfl rfl (hs.ownerBindKey_eq hkey (State.bindArgs_of ho hk hp hcode g mode level keyMode))
  · rw [ownerUnbindKey, indexArg_eq_none.mpr hbad]
  · simp only [ownerUnbindKey, indexArg_eq_some.mpr hkey, hb, Option.isNone_none, if_true]
  · obtain ⟨b, hb⟩ := Option.ne_none_iff_exists'.mp hb
    simp only [ownerUnbindKey, indexArg_eq_some.mpr hkey, hb, Option.isNone_some, Bool.false_eq_true, if_false, hs.unbind_eq hb]

end Sys2Proof.Proofs
end

section
/-! ## Contact lines -/

namespace Sys2Proof.Machine

variable {s : State} {n : KeyId} {l : Level}

theorem Key.follow_away {k : Key} (h : l ≠ k.accepted) (time : Nat) :
    k.follow l time = { k with line := l, debounce := .waiting time } := by
  rw [Key.follow, if_neg h]

theorem Key.follow_back {k : Key} (h : l = k.accepted) (time : Nat) : k.follow l time = { k with line := l, debounce := .idle } := by
  rw [Key.follow, if_pos h]

/-- A contact line that comes to another level, out of device reset (R90). -/
theorem exec_keyLineChange (hr : s.inReset = false) (hl : s.keys[n].line ≠ l) :
    exec (.keyLineChange n l) s = .next (s.setKey n (s.keys[n].follow l s.debounceTime)) := by
  show execKeyLineChange n l s = _
  rw [execKeyLineChange, if_neg hl, if_neg (Bool.eq_false_iff.mp hr)]

end Sys2Proof.Machine

namespace Sys2Proof.Proofs

open Machine Claims

/-- Settles O42: no change, a line away from the accepted level, a line back at it. -/
theorem keyLineChangesStartAndEndWaits : Obligations.KeyLineChangesStartAndEndWaits := by
  refine fun s n l hr => ⟨fun hl => ?_, fun hl haway => ?_, fun hl hback => ?_⟩
  · exact if_pos hl
  · rw [exec_keyLineChange hr hl, Key.follow_away haway]
  · rw [exec_keyLineChange hr hl, Key.follow_back hback]

end Sys2Proof.Proofs
end

section
/-! ## The recompose queue after a mark -/

namespace Sys2Proof.Machine

variable (q : List QueueEntry) (p : Row → Bool) (talk : Bool)

/-- The rows of the queue after a mark: those queued before it in their places, then the missing ones in row order (R110, R111). -/
theorem joinQueue_rows : (joinQueue q p talk).map QueueEntry.row =
    q.map QueueEntry.row ++ rowOrder.filter fun ρ => p ρ && !q.any fun e => e.row == ρ := by
  have hold : ∀ e : QueueEntry, (if p e.row then { e with talk := e.talk || talk } else e).row = e.row := fun e => by split <;> rfl
  simp [joinQueue, Function.comp_def, hold]

/-- A row is queued after a mark exactly if it was or is marked (R110). -/
theorem joinQueue_any (ρ : Row) : (joinQueue q p talk).any (fun e => e.row == ρ) = (q.any (fun e => e.row == ρ) || p ρ) := by
  have hmem : ∀ l : List QueueEntry, l.any (fun e => e.row == ρ) = true ↔ ρ ∈ l.map QueueEntry.row := fun l => by
    simp only [List.any_eq_true, beq_iff_eq, List.mem_map]
  rw [Bool.eq_iff_iff, hmem, joinQueue_rows, List.mem_append, List.mem_filter, ← hmem q]
  cases q.any fun e => e.row == ρ <;> simp [mem_rowOrder]

/-- A mark queues no row twice (R109, R110). -/
theorem joinQueue_nodup (h : (q.map QueueEntry.row).Nodup) : ((joinQueue q p talk).map QueueEntry.row).Nodup := by
  rw [joinQueue_rows, List.nodup_append]
  refine ⟨h, rowOrder_nodup.filter _, fun σ hσ τ hτ hστ => ?_⟩
  subst hστ
  obtain ⟨e, he, hrow⟩ := List.mem_map.mp hσ
  have hmissing := (List.mem_filter.mp hτ).2
  simp only [Bool.and_eq_true, Bool.not_eq_true', List.any_eq_false, beq_iff_eq] at hmissing
  exact hmissing.2 e he hrow

end Sys2Proof.Machine

namespace Sys2Proof.Proofs

open Machine

/-- Settles O51: `markRows_eq` and `markQueue_eq` give the queue, its rows give the rest. -/
theorem marksJoinTheQueueInRowOrder : Obligations.MarksJoinTheQueueInRowOrder := by
  refine fun s p ρ talk => ⟨s.markRows_eq p, ?_, joinQueue_any s.queue p talk, fun hq => ?_⟩
  · rw [State.mark, markQueue_eq]
  · have hnodup := joinQueue_nodup s.queue p talk hq
    exact ⟨hnodup, State.QueueLawful.length_le (s := { s with queue := joinQueue s.queue p talk }) hnodup⟩

/-- Settles O50: the take has the head's row composed, the completion retargets the cells of its row. -/
theorem rowsAreTakenAndCompleted : Obligations.RowsAreTakenAndCompleted := by
  refine fun s hr => ⟨fun e rest hf hq => ?_, fun h => ?_, fun f hf => ?_, fun hf => ?_⟩
  · show s.whenever _ s.takeRow = _
    rw [hf, hq, State.takeRow, hf, hq]
    exact State.whenever_of _ hr
  · have hnot : (s.inFlight.isNone && !s.queue.isEmpty) = false := by
      obtain hf | hq := h
      · simp [hf]
      · simp [hq]
    show s.whenever _ s.takeRow = _
    rw [hnot, State.whenever_false]
  · show s.whenever _ s.completeRow = _
    rw [hf, State.completeRow, hf]
    exact State.whenever_of _ hr
  · show s.whenever _ s.completeRow = _
    rw [hf]
    exact State.whenever_false _ _

end Sys2Proof.Proofs
end

section
/-! ## The minus set in the composition

R108: where the base coefficient of a source is 0, no conference adds to it and it is no interrupt's originator, its target is 0. -/

namespace Sys2Proof.Machine

open Claims

variable {s : State} {r : ReturnId} {j : SourceId}

/-- A conference adds nothing for a source that is no member or stands in the minus set (R105). -/
theorem State.conferenceCoeff_eq_zero (hb : s.baseCoeff r j = 0)
    (hc : Minus s r j ∨ ∀ k : ConferenceId, j ∉ s.conferences[k].members) : s.conferenceCoeff r j = 0 := by
  unfold State.conferenceCoeff
  split
  · exact hb
  · next a _ =>
    split
    · exact hb
    · next k _ =>
      have hadd : ¬ (s.conferences[k].members.contains j ∧ j ≠ a ∧ ¬ s.inMinusSet r j) := by
        rintro ⟨hm, -, hn⟩
        exact hc.elim (fun hj => hn (State.inMinusSet_iff.mpr hj)) fun hj => hj k (List.contains_iff_mem.mp hm)
      dsimp only
      rw [if_neg hadd, hb, compose_zero]
      rfl

/-- Nor does an interrupt, for a source that is not its originator (R106, R107). -/
theorem State.returnTarget_eq_zero (hb : s.baseCoeff r j = 0) (hc : Minus s r j ∨ ∀ k : ConferenceId, j ∉ s.conferences[k].members)
    (ho : ∀ x, s.arbiter[r].active = some x → j ≠ x.request.originator) : s.returnTarget r j = 0 := by
  have hl : s.levelCoeff r j = 0 := by rw [State.levelCoeff, State.conferenceCoeff_eq_zero hb hc, compose_zero]
  unfold State.returnTarget
  split
  · rfl
  · split
    · exact hl
    · next x hx =>
      rw [if_neg (ho x hx)]
      split
      · rfl
      · rw [hl, compose_zero]

/-- A source of a minus set is a caller, a codec or a studio source (R25, R29). -/
theorem State.TablesLawful.joinable_of_minus (h : s.TablesLawful) (hm : Minus s r j) : Joinable s.sources[j] := by
  obtain hl | ha := hm
  · exact h.minusKind r j hl
  · exact (h.attachedKind r j ha).elim .inl fun hk => .inr (.inl hk)

/-- An interrupt's originator is a TALKBACK source (R79). -/
theorem State.TablesLawful.ne_originator (h : s.TablesLawful) (hj : s.sources[j].kind ≠ .talkback) (x : Active)
    (hx : s.arbiter[r].active = some x) : j ≠ x.request.originator := fun he => hj (he ▸ h.activeKind r x hx)

/-- The composition leaves out a source of the minus set (R108). -/
theorem State.Lawful.minus_target (h : s.Lawful) (hm : Minus s r j) : s.targetOf (.ret r) j = 0 := by
  have hk : Joinable s.sources[j] := h.tables.joinable_of_minus hm
  have hfeed : s.airFeed ≠ some j := fun hf => by
    simp only [Joinable, h.tables.airFeedKind j hf, reduceCtorEq, or_self] at hk
  have htalk : s.sources[j].kind ≠ .talkback := fun ht => by
    simp only [Joinable, ht, reduceCtorEq, or_self] at hk
  have hbase : s.baseCoeff r j = 0 := by
    unfold State.baseCoeff
    split
    · rw [if_pos (State.inMinusSet_iff.mpr hm)]
    · rw [if_neg hfeed]
    · rfl
  exact State.returnTarget_eq_zero hbase (.inl hm) (h.tables.ne_originator htalk)

/-- The composition leaves out the air feed of a demoted return (R38, R108). -/
theorem State.Lawful.feed_target (h : s.Lawful) {f : SourceId} (hf : s.airFeed = some f) (hd : Demoted s r) :
    s.targetOf (.ret r) f = 0 := by
  have hk : s.sources[f].kind = .air := h.tables.airFeedKind f hf
  have hcontribution : s.sources[f].contribution = 0 := by
    simp only [Source.contribution, hk, Kind.hasStage, Kind.hasOn, Bool.false_eq_true, false_and, or_self, if_false]
  have hbase : s.baseCoeff r f = 0 := by
    have hfeed : s.baseFeed r ≠ .air := by
      unfold State.baseFeed
      rw [State.demotes_iff.mpr hd]
      split
      · simp
      · assumption
    unfold State.baseCoeff
    split
    · rw [hcontribution, ite_self]
    · next hair => exact absurd hair hfeed
    · rfl
  have hout : ∀ k : ConferenceId, f ∉ s.conferences[k].members := fun k hm => by
    have hadmitted := h.conferences.admitted f k hm
    simp only [hk, reduceCtorEq, false_and, or_self] at hadmitted
  exact State.returnTarget_eq_zero hbase (.inr hout) (h.tables.ne_originator (by rw [hk]; decide))

end Sys2Proof.Machine

namespace Sys2Proof.Proofs

open Machine Claims

/-- Settles O52: the composition by `minus_target` and `feed_target`, the stored targets by the law of R115. -/
theorem noReturnCarriesItsMinusSet : Obligations.NoReturnCarriesItsMinusSet := by
  intro s h r i f settled hm
  have hstored : ∀ j : SourceId, s.targetOf (.ret r) j = 0 → settled → (s.row (.ret r))[j].target = 0 :=
    fun j hj ⟨hs, hq, hf⟩ => (hs.settled (.ret r) hq hf j).trans hj
  have hi := h.minus_target hm
  refine ⟨hi, hstored i hi, fun hf hg => ?_⟩
  have hfeed := h.feed_target (r := r) hf (.inr ⟨i, hm, hg⟩)
  exact ⟨hfeed, hstored f hfeed⟩

end Sys2Proof.Proofs
end

section
/-! ## What the composition of a row reads

The target of a cell is a function of the tables; `State.ReadsAlike` lists what a return's row reads of them (R103 to R107), and the
lemmas after it say which rows each writer of a table can move. -/

namespace Sys2Proof.Machine

open Claims

/-- What the composition reads of a return record (R31, R37, R106, R107). -/
structure Recipe where
  attached : Option SourceId
  minusList : List SourceId
  defaultFeed : Feed
  level : Coeff
  dipLevel : Coeff

/-- The recipe of a return record. -/
def Return.recipe (x : Return) : Recipe where
  attached := x.attached
  minusList := x.minusList
  defaultFeed := x.defaultFeed
  level := x.level
  dipLevel := x.dipLevel

/-- The second state gives the composition of a return's row the same to read as the first. -/
structure State.ReadsAlike (s t : State) (r : ReturnId) : Prop where
  record : t.returns[r].recipe = s.returns[r].recipe
  airFeed : t.airFeed = s.airFeed
  contribution : ∀ j : SourceId, t.sources[j].contribution = s.sources[j].contribution
  onAir : ∀ j : SourceId, Minus s r j →
    ((t.sources[j].stage = .air ∨ t.sources[j].guard.isSome) ↔ (s.sources[j].stage = .air ∨ s.sources[j].guard.isSome))
  stage : ∀ a : SourceId, s.returns[r].attached = some a → t.sources[a].stage = s.sources[a].stage
  seat : ∀ a : SourceId, s.returns[r].attached = some a → t.sources[a].conference = s.sources[a].conference
  conference : ∀ (a : SourceId) (k : ConferenceId), s.returns[r].attached = some a → s.sources[a].conference = some k →
    t.conferences[k] = s.conferences[k]
  interrupt : t.arbiter[r].active.map Active.request = s.arbiter[r].active.map Active.request
  talkLevel : ∀ x, s.arbiter[r].active = some x →
    t.sources[x.request.originator].talkLevel = s.sources[x.request.originator].talkLevel

theorem State.ReadsAlike.refl (s : State) (r : ReturnId) : s.ReadsAlike s r :=
  ⟨rfl, rfl, fun _ => rfl, fun _ _ => Iff.rfl, fun _ _ => rfl, fun _ _ => rfl, fun _ _ _ _ => rfl, rfl, fun _ _ => rfl⟩

section Reads

variable {s t : State} {r : ReturnId}

theorem State.ReadsAlike.attached (h : s.ReadsAlike t r) : t.returns[r].attached = s.returns[r].attached :=
  congrArg Recipe.attached h.record

theorem State.ReadsAlike.inMinusSet (h : s.ReadsAlike t r) (j : SourceId) : t.inMinusSet r j = s.inMinusSet r j := by
  have hlist : t.returns[r].minusList = s.returns[r].minusList := congrArg Recipe.minusList h.record
  rw [State.inMinusSet, State.inMinusSet, hlist, h.attached]

theorem State.ReadsAlike.silentListener (h : s.ReadsAlike t r) : t.silentListener r = s.silentListener r := by
  unfold State.silentListener
  rw [h.attached]
  cases ha : s.returns[r].attached with
  | none => rfl
  | some a => simp only [h.stage a ha]

theorem State.ReadsAlike.baseBeforeDemotion (h : s.ReadsAlike t r) : t.baseBeforeDemotion r = s.baseBeforeDemotion r := by
  have hfeed : t.returns[r].defaultFeed = s.returns[r].defaultFeed := congrArg Recipe.defaultFeed h.record
  unfold State.baseBeforeDemotion
  rw [h.attached, hfeed]
  cases ha : s.returns[r].attached with
  | none => rfl
  | some a => simp only [h.stage a ha]

theorem State.ReadsAlike.demotes (h : s.ReadsAlike t r) : t.demotes r = s.demotes r := by
  unfold State.demotes
  rw [h.airFeed]
  congr 2
  funext j
  rw [h.inMinusSet, Bool.eq_iff_iff]
  simp only [Bool.and_eq_true, Bool.or_eq_true, decide_eq_true_eq, State.inMinusSet_iff]
  exact and_congr_right (h.onAir j)

theorem State.ReadsAlike.baseCoeff (h : s.ReadsAlike t r) (j : SourceId) : t.baseCoeff r j = s.baseCoeff r j := by
  have hfeed : t.baseFeed r = s.baseFeed r := by rw [State.baseFeed, State.baseFeed, h.baseBeforeDemotion, h.demotes]
  rw [State.baseCoeff, State.baseCoeff, hfeed, h.inMinusSet, h.contribution, h.airFeed]

theorem State.ReadsAlike.conferenceCoeff (h : s.ReadsAlike t r) (j : SourceId) : t.conferenceCoeff r j = s.conferenceCoeff r j := by
  unfold State.conferenceCoeff
  rw [h.attached, h.baseCoeff]
  cases ha : s.returns[r].attached with
  | none => rfl
  | some a =>
    simp only [h.seat a ha]
    cases hk : s.sources[a].conference with
    | none => rfl
    | some k => simp only [h.conference a k ha hk, h.inMinusSet]

/-- A row that reads the same has the same targets (R103 to R107). -/
theorem State.ReadsAlike.returnTarget (h : s.ReadsAlike t r) (j : SourceId) : t.returnTarget r j = s.returnTarget r j := by
  have hlevel : t.returns[r].level = s.returns[r].level := congrArg Recipe.level h.record
  have hdip : t.returns[r].dipLevel = s.returns[r].dipLevel := congrArg Recipe.dipLevel h.record
  unfold State.returnTarget State.levelCoeff
  rw [h.silentListener, h.conferenceCoeff, hlevel, hdip]
  have hrequest := h.interrupt
  cases hx : s.arbiter[r].active with
  | none =>
    rw [hx] at hrequest
    rw [Option.map_eq_none_iff.mp hrequest]
  | some x =>
    rw [hx] at hrequest
    obtain ⟨y, hy, hyx⟩ := Option.map_eq_some_iff.mp hrequest
    have htalk := h.talkLevel x hx
    simp only [hy, hyx]
    split
    · rfl
    · split
      · next hj => rw [hj, htalk]
      · rfl

end Reads

/-- The composition gives every cell of a row the same target in both states. -/
def State.AlikeAt (s t : State) (ρ : Row) : Prop := ∀ i : SourceId, t.targetOf ρ i = s.targetOf ρ i

theorem State.AlikeAt.trans {s t u : State} {ρ : Row} (h : s.AlikeAt t ρ) (k : t.AlikeAt u ρ) : s.AlikeAt u ρ :=
  fun i => (k i).trans (h i)

theorem State.ReadsAlike.alikeAt {s t : State} {r : ReturnId} (h : s.ReadsAlike t r) : s.AlikeAt t (.ret r) := h.returnTarget

/-- The program row reads the contributions alone (R102). -/
theorem State.alikeAt_program {s t : State} (h : ∀ j : SourceId, t.sources[j].contribution = s.sources[j].contribution) :
    s.AlikeAt t .program := h

theorem State.AlikeAt.of_tables {s t : State} (hs : t.sources = s.sources) (hf : t.airFeed = s.airFeed) (hr : t.returns = s.returns)
    (hc : t.conferences = s.conferences) (ha : t.arbiter = s.arbiter) (ρ : Row) : s.AlikeAt t ρ := by
  cases ρ with
  | program => exact State.alikeAt_program fun j => by rw [hs]
  | ret r =>
    have h := State.ReadsAlike.refl s r
    exact State.ReadsAlike.alikeAt
      { record := by rw [hr]
        airFeed := hf
        contribution := by rw [hs]; exact h.contribution
        onAir := by rw [hs]; exact h.onAir
        stage := by rw [hs]; exact h.stage
        seat := by rw [hs]; exact h.seat
        conference := by rw [hc]; exact h.conference
        interrupt := by rw [ha]
        talkLevel := by rw [hs]; exact h.talkLevel }

end Sys2Proof.Machine
end

section
/-! ## Steps that mark what they move

R115 is kept because an event marks every row whose composition it moves. `State.Owes` says so with the rows whose mark is still to come:
the writers of the tables owe the rows they move, a mark pays, and an operation that owes nothing keeps the law. -/

namespace Sys2Proof.Machine

open Claims

/-- From the one state to the other no target of a cell is written, no row leaves the queue, and a row that is not queued is composed as
before unless its mark is owed. -/
structure State.Owes (owed : Row → Prop) (s t : State) : Prop where
  inFlight : t.inFlight = s.inFlight
  targets : ∀ (ρ : Row) (i : SourceId), (t.row ρ)[i].target = (s.row ρ)[i].target
  queued : ∀ ρ : Row, t.queued ρ = false → s.queued ρ = false
  moved : ∀ ρ : Row, ¬ owed ρ → t.queued ρ = false → s.AlikeAt t ρ

section Owes

variable {owed : Row → Prop} {s t u : State}

/-- A writer that is off the composer's own fields owes the rows it moves. -/
theorem State.Owes.of_alike (hf : t.inFlight = s.inFlight) (hc : t.cells = s.cells) (hq : t.queue = s.queue)
    (h : ∀ ρ, ¬ owed ρ → s.AlikeAt t ρ) : s.Owes owed t where
  inFlight := hf
  targets ρ i := by rw [State.row, State.row, hc]
  queued ρ hρ := by rwa [State.queued, hq] at hρ
  moved ρ hρ _ := h ρ hρ

/-- What is off the tables of the composition and the composer's fields. -/
theorem State.Owes.of_tables (h : t = { t with
      sources := s.sources, airFeed := s.airFeed, returns := s.returns, conferences := s.conferences, arbiter := s.arbiter
      inFlight := s.inFlight, cells := s.cells, queue := s.queue }) : s.Owes owed t := by
  rw [h]
  exact .of_alike rfl rfl rfl fun ρ _ => .of_tables rfl rfl rfl rfl rfl ρ

theorem State.Owes.refl (s : State) : s.Owes owed s := .of_tables rfl

theorem State.Owes.trans (h : s.Owes owed t) (k : t.Owes owed u) : s.Owes owed u where
  inFlight := k.inFlight.trans h.inFlight
  targets ρ i := (k.targets ρ i).trans (h.targets ρ i)
  queued ρ hρ := h.queued ρ (k.queued ρ hρ)
  moved ρ hρ hu := (h.moved ρ hρ (k.queued ρ hu)).trans (k.moved ρ hρ hu)

theorem State.Owes.mono {more : Row → Prop} (h : s.Owes owed t) (hm : ∀ ρ, owed ρ → more ρ) : s.Owes more t :=
  { h with moved := fun ρ hρ => h.moved ρ fun ho => hρ (hm ρ ho) }

theorem State.Owes.ite {c : Prop} [Decidable c] (ht : s.Owes owed t) (hu : s.Owes owed u) : s.Owes owed (if c then t else u) := by
  split <;> assumption

theorem State.foldl_owes {β : Type} {f : State → β → State} (l : List β) (h : ∀ (t : State), ∀ b ∈ l, t.Owes owed (f t b))
    (s : State) : s.Owes owed (l.foldl f s) := by
  induction l generalizing s with
  | nil => exact .refl s
  | cons b l ih =>
    exact (h s b List.mem_cons_self).trans (ih (fun t c hc => h t c (List.mem_cons_of_mem b hc)) (f s b))

/-- A mark pays what is owed for the rows it marks (R110). -/
theorem State.Owes.join {p : Row → Bool} (h : s.Owes (fun ρ => p ρ = true ∨ owed ρ) t) (talk : Bool) :
    s.Owes owed { t with queue := joinQueue t.queue p talk } := by
  have hjoin : ∀ ρ, State.queued { t with queue := joinQueue t.queue p talk } ρ = false → t.queued ρ = false ∧ p ρ = false :=
    fun ρ hρ => by
      rw [State.queued, joinQueue_any, Bool.or_eq_false_iff] at hρ
      exact hρ
  exact
    { inFlight := h.inFlight
      targets := h.targets
      queued := fun ρ hρ => h.queued ρ (hjoin ρ hρ).1
      moved := fun ρ hρ hu => by
        obtain ⟨ht, hp⟩ := hjoin ρ hu
        have hnot : ¬ (p ρ = true ∨ owed ρ) := by simp [hp, hρ]
        exact (h.moved ρ hnot ht).trans (.of_tables rfl rfl rfl rfl rfl ρ) }

theorem State.Owes.markRows {p : Row → Bool} (h : s.Owes (fun ρ => p ρ = true) t) : s.Owes owed (t.markRows p) := by
  rw [State.markRows_eq]
  exact (h.mono fun _ => .inl).join false

theorem State.Owes.mark {σ : Row} (h : s.Owes (fun ρ => ρ = σ) t) (talk : Bool) : s.Owes owed (t.mark σ talk) := by
  rw [State.mark, markQueue_eq]
  exact (h.mono fun ρ hρ => .inl (decide_eq_true hρ)).join talk

/-- Where nothing is owed, R115 is kept. -/
theorem State.Owes.settledLawful (h : s.Owes (fun _ => False) t) (hs : s.SettledLawful) : t.SettledLawful where
  settled ρ hq hf i := by
    have hflying : s.flying ρ = false := by rwa [State.flying, h.inFlight] at hf
    rw [h.targets, h.moved ρ id hq i, hs.settled ρ (h.queued ρ hq) hflying i]
  landing f hf hq i := by
    rw [h.inFlight] at hf
    rw [hs.landing f hf (h.queued f.row hq) i, h.moved f.row id hq i]

end Owes

/-! ### The writers of the tables -/

section Writers

variable {owed : Row → Prop} (s : State)

theorem State.setPort_owes (p : Port) (q : PortState) : s.Owes owed (s.setPort p q) := .of_tables rfl

theorem State.raise_owes (k : NoticeKind) (i : Nat) : s.Owes owed (s.raise k i) := .of_tables rfl

theorem State.setKey_owes (n : KeyId) (k : Key) : s.Owes owed (s.setKey n k) := .of_tables rfl

/-- Cells whose targets stand. -/
theorem State.withCells_owes (cells : Vector (Vector Cell 32) 25) (held : Vector Sample 32)
    (h : ∀ (j : Fin 25) (i : SourceId), cells[j][i].target = s.cells[j][i].target) :
    s.Owes owed { s with cells := cells, held := held } where
  inFlight := rfl
  targets ρ i := h (rowIndex ρ) i
  queued _ := id
  moved ρ _ _ := .of_tables rfl rfl rfl rfl rfl ρ

/-- Source records move the rows that read what changes of them: contributions are read by every row, a stage and a guard by the rows whose
minus set holds the source, a stage and a membership by those attached to it, and a talk level by those it talks on. -/
theorem State.withSources_owes (v : Vector Source 32) (hc : ∀ j : SourceId, v[j].contribution = s.sources[j].contribution)
    (hm : ∀ (r : ReturnId) (j : SourceId), ¬ owed (.ret r) → Minus s r j →
      ((v[j].stage = .air ∨ v[j].guard.isSome) ↔ (s.sources[j].stage = .air ∨ s.sources[j].guard.isSome)))
    (ha : ∀ (r : ReturnId) (a : SourceId), ¬ owed (.ret r) → s.returns[r].attached = some a →
      v[a].stage = s.sources[a].stage ∧ v[a].conference = s.sources[a].conference)
    (ht : ∀ (r : ReturnId) (x : Active), ¬ owed (.ret r) → s.arbiter[r].active = some x →
      v[x.request.originator].talkLevel = s.sources[x.request.originator].talkLevel) :
    s.Owes owed { s with sources := v } := by
  refine .of_alike rfl rfl rfl fun ρ hρ => ?_
  cases ρ with
  | program => exact State.alikeAt_program hc
  | ret r =>
    have h := State.ReadsAlike.refl s r
    exact State.ReadsAlike.alikeAt
      { record := rfl
        airFeed := rfl
        contribution := hc
        onAir := fun j => hm r j hρ
        stage := fun a h => (ha r a hρ h).1
        seat := fun a h => (ha r a hρ h).2
        conference := h.conference
        interrupt := rfl
        talkLevel := fun x => ht r x hρ }

/-- One source record rewritten. -/
theorem State.setSource_owes (i : SourceId) {x : Source} (hc : x.contribution = s.sources[i].contribution)
    (hm : ∀ r : ReturnId, ¬ owed (.ret r) → Minus s r i →
      ((x.stage = .air ∨ x.guard.isSome) ↔ (s.sources[i].stage = .air ∨ s.sources[i].guard.isSome)))
    (ha : ∀ r : ReturnId, ¬ owed (.ret r) → s.returns[r].attached = some i →
      x.stage = s.sources[i].stage ∧ x.conference = s.sources[i].conference)
    (ht : ∀ (r : ReturnId) (y : Active), ¬ owed (.ret r) → s.arbiter[r].active = some y → y.request.originator = i →
      x.talkLevel = s.sources[i].talkLevel) :
    s.Owes owed (s.setSource i x) := by
  refine s.withSources_owes (s.setSource i x).sources (fun j => ?_) (fun r j hr hj => ?_) (fun r a hr h => ?_)
    (fun r y hr hy => ?_) <;> rw [State.setSource_read] <;> split
  · next h => exact h ▸ hc
  · rfl
  · next h => subst h; exact hm r hr hj
  · rfl
  · next hi => subst hi; exact ha r hr h
  · exact ⟨rfl, rfl⟩
  · next hi => subst hi; exact ht r y hr hy rfl
  · rfl

/-- A source record in the fields that the composition does not read. -/
theorem State.setSource_owes_of_unread (i : SourceId) {x : Source} (hc : x.contribution = s.sources[i].contribution)
    (hs : x.stage = s.sources[i].stage) (hg : x.guard = s.sources[i].guard) (hm : x.conference = s.sources[i].conference)
    (ht : x.talkLevel = s.sources[i].talkLevel) : s.Owes owed (s.setSource i x) :=
  s.setSource_owes i hc (fun _ _ _ => by rw [hs, hg]) (fun _ _ _ => ⟨hs, hm⟩) fun _ _ _ _ _ => ht

/-- Return records move the rows whose recipes change. -/
theorem State.withReturns_owes (v : Vector Return 24) (h : ∀ r : ReturnId, ¬ owed (.ret r) → v[r].recipe = s.returns[r].recipe) :
    s.Owes owed { s with returns := v } := by
  refine .of_alike rfl rfl rfl fun ρ hρ => ?_
  cases ρ with
  | program => exact State.alikeAt_program fun _ => rfl
  | ret r => exact State.ReadsAlike.alikeAt { State.ReadsAlike.refl s r with record := h r hρ }

/-- A return record moves its own row at most. -/
theorem State.setReturn_owes (r : ReturnId) (x : Return) : s.Owes (fun ρ => ρ = .ret r) (s.setReturn r x) :=
  s.withReturns_owes (s.setReturn r x).returns fun q hq => by
    rw [State.setReturn_read, if_neg fun h : r = q => hq (h ▸ rfl)]

/-- A return record in the fields that the composition does not read. -/
theorem State.setReturn_owes_of_recipe (r : ReturnId) {x : Return} (h : x.recipe = s.returns[r].recipe) : s.Owes owed (s.setReturn r x) :=
  s.withReturns_owes (s.setReturn r x).returns fun q _ => by
    rw [State.setReturn_read]
    split
    · next hq => exact hq ▸ h
    · rfl

/-- Arbitration records move the rows whose active requests change. -/
theorem State.withArbiter_owes (v : Vector Arbitration 24)
    (h : ∀ r : ReturnId, ¬ owed (.ret r) → v[r].active.map Active.request = s.arbiter[r].active.map Active.request) :
    s.Owes owed { s with arbiter := v } := by
  refine .of_alike rfl rfl rfl fun ρ hρ => ?_
  cases ρ with
  | program => exact State.alikeAt_program fun _ => rfl
  | ret r => exact State.ReadsAlike.alikeAt { State.ReadsAlike.refl s r with interrupt := h r hρ }

theorem State.setArbitration_owes (r : ReturnId) (a : Arbitration) : s.Owes (fun ρ => ρ = .ret r) (s.setArbitration r a) :=
  s.withArbiter_owes (s.setArbitration r a).arbiter fun q hq => by
    rw [State.setArbitration_read, if_neg fun h : r = q => hq (h ▸ rfl)]

/-- An arbitration record with its active request as it is. -/
theorem State.setArbitration_owes_of_active (r : ReturnId) {a : Arbitration} (h : a.active = s.arbiter[r].active) :
    s.Owes owed (s.setArbitration r a) :=
  s.withArbiter_owes (s.setArbitration r a).arbiter fun q _ => by
    rw [State.setArbitration_read]
    split
    · next hq => rw [h, hq]
    · rfl

/-- The rows of the returns whose attached source's record names a conference (R105). -/
def State.SeatedRow (s : State) (k : ConferenceId) : Row → Prop
  | .program => False
  | .ret r => ∃ a, s.returns[r].attached = some a ∧ s.sources[a].conference = some k

/-- A conference record moves the rows of the returns that hear the conference (R45). -/
theorem State.setConference_owes (k : ConferenceId) (x : Conference) : s.Owes (s.SeatedRow k) (s.setConference k x) := by
  refine .of_alike rfl rfl rfl fun ρ hρ => ?_
  cases ρ with
  | program => exact State.alikeAt_program fun _ => rfl
  | ret r =>
    refine State.ReadsAlike.alikeAt { State.ReadsAlike.refl s r with conference := fun a l ha hl => ?_ }
    have hne : k ≠ l := fun h => hρ ⟨a, ha, h ▸ hl⟩
    rw [State.setConference_read, if_neg hne]

/-- The air feed moves the return rows alone (R18). -/
theorem State.withAirFeed_owes (a : Option SourceId) : s.Owes (fun ρ => everyReturnRow ρ = true) { s with airFeed := a } := by
  refine .of_alike rfl rfl rfl fun ρ hρ => ?_
  cases ρ with
  | program => exact State.alikeAt_program fun _ => rfl
  | ret r => exact absurd rfl hρ

end Writers

end Sys2Proof.Machine
end

section
/-! ### The operations of the tables -/

namespace Sys2Proof.Machine

open Claims

section Operations

variable {owed : Row → Prop} (s : State)

/-! #### The arbiter -/

theorem State.countRefusal_owes (r : ReturnId) : s.Owes owed (s.countRefusal r) := s.setReturn_owes_of_recipe r rfl

/-- A queued request leaves the active one (R63). -/
theorem Arbitration.decide_queued {gone : Bool} {a : Arbitration} {q : Request} {n : Nat} (h : (a.decide gone q).1 = .queued n) :
    (a.decide gone q).2.active = a.active := by
  unfold Arbitration.decide at h ⊢
  split
  · rfl
  · split
    · rfl
    · split
      · simp_all
      · split
        · simp_all
        · split <;> rfl

/-- A release of pending requests alone leaves the active one (R68). -/
theorem Arbitration.release_waiting {p : Request → Bool} {a b : Arbitration} {rel : Released} (h : a.release p = some (rel, b))
    (hr : ¬ rel.wasActive = true) : b.active = a.active := by
  unfold Arbitration.release at h
  dsimp only at h
  split at h
  · obtain ⟨rfl, _⟩ := Prod.mk.inj (Option.some.inj h)
    exact absurd rfl hr
  · split at h
    · cases h
    · obtain ⟨_, rfl⟩ := Prod.mk.inj (Option.some.inj h)
      rfl

theorem State.talkOn_owes (r : ReturnId) (q : Request) : s.Owes owed (s.talkOn r q).1 := by
  have hactive := (s.setArbitration_owes r (s.arbiter[r].decide (s.listenerVacant r) q).2).mark (owed := owed) true
  unfold State.talkOn
  dsimp only
  split
  · exact hactive
  · exact hactive.trans (State.raise_owes _ _ _)
  · next h => exact s.setArbitration_owes_of_active r (Arbitration.decide_queued h)
  · exact s.countRefusal_owes r

theorem State.visit_owes (r : ReturnId) (q : Request) : s.Owes owed (s.visit r q).1 := by
  unfold State.visit
  split
  · exact s.talkOn_owes r q
  · exact .refl s
  · exact s.countRefusal_owes r

theorem State.talkGroup_owes (t : TagId) (q : Request) : s.Owes owed (s.talkGroup t q).1 :=
  foldl_keeps (fun d : State × List TalkEntry => s.Owes owed d.1) _
    (fun d r hd => by
      split
      · have h := d.1.visit_owes (owed := owed) r q
        rcases hv : d.1.visit r q with ⟨u, _ | o⟩ <;> rw [hv] at h <;> exact hd.trans h
      · exact hd)
    (List.finRange 24) (s, []) (.refl s)

theorem State.releaseOn_owes (r : ReturnId) (p : Request → Bool) : s.Owes owed (s.releaseOn r p).1 := by
  unfold State.releaseOn
  split
  · exact .refl s
  · next rel a h =>
    have hmarked : s.Owes owed (if rel.wasActive then (s.setArbitration r a).mark (.ret r) true else s.setArbitration r a) := by
      split
      · exact (s.setArbitration_owes r a).mark true
      · next hw => exact s.setArbitration_owes_of_active r (Arbitration.release_waiting h hw)
    exact hmarked.trans (.ite (State.raise_owes _ _ _) (.refl _))

theorem State.releaseAll_owes (p : Request → Bool) : s.Owes owed (s.releaseAll p).1 :=
  foldl_keeps (fun d : State × List (ReturnId × Released) => s.Owes owed d.1) _
    (fun d r hd => by
      have h := d.1.releaseOn_owes (owed := owed) r p
      rcases hr : d.1.releaseOn r p with ⟨u, _ | rel⟩ <;> rw [hr] at h <;> exact hd.trans h)
    (List.finRange 24) (s, []) (.refl s)

/-- Only the removal of an active request moves the row (R73, R74). -/
theorem State.listenerGone_owes (r : ReturnId) : s.Owes owed (s.listenerGone r) := by
  unfold State.listenerGone
  dsimp only
  refine .ite (.refl s) ?_
  split
  · exact ((s.setArbitration_owes r _).trans (State.raise_owes _ _ _)).mark true
  · next hn =>
    have hnone : none = s.arbiter[r].active := (Option.not_isSome_iff_eq_none.mp hn).symm
    exact (s.setArbitration_owes_of_active r hnone).trans (State.raise_owes _ _ _)

theorem State.listenersGone_owes (i : SourceId) : s.Owes owed (s.listenersGone i) :=
  State.foldl_owes _ (fun t r _ => .ite (t.listenerGone_owes r) (.refl t)) s

theorem State.expireHold_owes (r : ReturnId) : s.Owes owed (s.expireHold r) := by
  unfold State.expireHold
  exact ((s.setArbitration_owes r _).trans (.trans (.ite (State.raise_owes _ _ _) (.refl _)) (State.raise_owes _ _ _))).mark true

/-! #### Keys -/

theorem State.keyTalk_owes (n : KeyId) (b : Binding) : s.Owes owed (s.keyTalk n b).1 := by
  unfold State.keyTalk
  split <;> dsimp only
  · exact s.talkOn_owes _ _
  · exact s.talkGroup_owes _ _

theorem State.keyRelease_owes (b : Binding) : s.Owes owed (s.keyRelease b).1 := by
  unfold State.keyRelease
  split
  · next r _ =>
    have hr := s.releaseOn_owes (owed := owed) r (byOriginator b.originator)
    split <;> next hu => rw [hu] at hr; exact hr
  · dsimp only
    exact s.releaseAll_owes _

theorem State.recordOutcome_owes (d : State × KeyOutcome) (n : KeyId) : d.1.Owes owed (State.recordOutcome d n) := d.1.setKey_owes n _

theorem State.pressKey_owes (n : KeyId) (b : Binding) : s.Owes owed (s.pressKey n b) := by
  have htalk : ∀ t : State, t.Owes owed (State.recordOutcome (t.keyTalk n b) n) := fun t =>
    (t.keyTalk_owes n b).trans (State.recordOutcome_owes _ n)
  unfold State.pressKey
  dsimp only
  split
  · exact (s.setKey_owes n _).trans (htalk _)
  · split
    · exact (s.setKey_owes n _).trans ((State.keyRelease_owes _ b).trans (State.recordOutcome_owes _ n))
    · exact (s.setKey_owes n _).trans (htalk _)

theorem State.releaseKey_owes (n : KeyId) (b : Binding) : s.Owes owed (s.releaseKey n b) := by
  unfold State.releaseKey
  dsimp only
  refine State.Owes.trans ?_ (State.setKey_owes _ n _)
  split
  · exact (s.keyRelease_owes b).trans (State.recordOutcome_owes _ n)
  · exact .refl s
  · exact .refl s

theorem State.acceptKey_owes (n : KeyId) : s.Owes owed (s.acceptKey n) := by
  have hset : s.Owes owed (s.setKey n { s.keys[n] with accepted := s.keys[n].line, debounce := .idle }) := s.setKey_owes n _
  have hevent := hset.trans (State.raise_owes _ .keyEvent n.val)
  unfold State.acceptKey
  dsimp only
  split
  · exact hset.trans (State.setKey_owes _ n _)
  · exact .ite (hevent.trans (State.pressKey_owes _ n _)) (hevent.trans (State.releaseKey_owes _ n _))

theorem State.unbind_owes (n : KeyId) : s.Owes owed (s.unbind n).1 := by
  rw [State.unbind_fst]
  exact (s.releaseAll_owes _).trans (State.setKey_owes _ n _)

/-! #### Conferences -/

/-- In lawful states the returns that hear a conference are those attached to its members (R43, R45). -/
theorem State.ConferencesLawful.memberRow {s : State} (h : s.ConferencesLawful) {k : ConferenceId} {ρ : Row} (hρ : s.SeatedRow k ρ) :
    s.memberRow k ρ = true := by
  cases ρ with
  | program => exact hρ.elim
  | ret r =>
    obtain ⟨a, ha, hk⟩ := hρ
    simp only [State.memberRow, ha]
    exact List.contains_iff_mem.mpr ((h.agree a k).mp hk)

/-- The rows of the returns that hear the conference of a source. -/
def State.FellowRow (s : State) (i : SourceId) (ρ : Row) : Prop := ∃ k, s.sources[i].conference = some k ∧ s.SeatedRow k ρ

theorem State.ConferencesLawful.ownConferenceRow {s : State} (h : s.ConferencesLawful) {i : SourceId} {ρ : Row} (hρ : s.FellowRow i ρ) :
    s.ownConferenceRow i ρ = true := by
  obtain ⟨k, hk, hseated⟩ := hρ
  simp only [State.ownConferenceRow, hk]
  exact h.memberRow hseated

/-- A source's membership moves the row of the return attached to it. -/
theorem State.setMembership_owes (i : SourceId) (k : Option ConferenceId) :
    s.Owes (fun ρ => s.attachedRow i ρ = true) (s.setMembership i k) :=
  s.setSource_owes i rfl (fun _ _ _ => Iff.rfl) (fun _ hr ha => absurd (decide_eq_true ha) hr) fun _ _ _ _ _ => rfl

theorem State.seated_of_attached {i : SourceId} {k : ConferenceId} (hk : s.sources[i].conference = some k) {ρ : Row}
    (h : s.attachedRow i ρ = true) : s.SeatedRow k ρ := by
  cases ρ with
  | program => cases h
  | ret r => exact ⟨i, of_decide_eq_true h, hk⟩

/-- A member that leaves moves the rows of the returns that hear its conference (R49, R51). -/
theorem State.unlist_setMembership_owes {i : SourceId} {k : ConferenceId} (hk : s.sources[i].conference = some k) :
    s.Owes (s.SeatedRow k) ((s.unlist k i).setMembership i none) :=
  (s.setConference_owes k _).trans ((State.setMembership_owes (s.unlist k i) i none).mono fun _ => s.seated_of_attached hk)

theorem State.exitConference_owes (i : SourceId) : s.Owes (s.FellowRow i) (s.exitConference i) := by
  unfold State.exitConference
  split
  · exact .refl s
  · next k hk => exact ((s.unlist_setMembership_owes hk).mono fun ρ hρ => ⟨k, hk, hρ⟩).trans (State.raise_owes _ _ _)

/-- A join moves the rows of the returns that hear the prior conference or the new one, and of the one attached to the source. -/
theorem State.enterConference_owes (i : SourceId) (k : ConferenceId) :
    s.Owes (fun ρ => s.FellowRow i ρ ∨ s.SeatedRow k ρ ∨ s.attachedRow i ρ = true) (s.enterConference i k) := by
  unfold State.enterConference
  dsimp only
  split
  · exact ((s.setConference_owes k _).mono fun _ h => .inr (.inl h)).trans
      ((State.setMembership_owes _ i _).mono fun _ h => .inr (.inr h))
  · next prior hp =>
    have hleft : s.Owes (fun ρ => s.FellowRow i ρ ∨ s.SeatedRow k ρ ∨ s.attachedRow i ρ = true) (s.unlist prior i) :=
      (s.setConference_owes prior _).mono fun ρ h => .inl ⟨prior, hp, h⟩
    exact hleft.trans (((State.setConference_owes _ k _).mono fun _ h => .inr (.inl h)).trans
      ((State.setMembership_owes _ i _).mono fun _ h => .inr (.inr h)))

/-! #### Lists -/

/-- A writer of anything but the composer's fields owes every row at most. -/
theorem State.Owes.of_every {s t : State} (hf : t.inFlight = s.inFlight) (hc : t.cells = s.cells) (hq : t.queue = s.queue) :
    s.Owes (fun ρ => everyRow ρ = true) t :=
  .of_alike hf hc hq fun _ h => absurd rfl h

theorem State.writeFader_owes (e : Byte × Coeff) : s.Owes (fun ρ => everyRow ρ = true) (s.writeFader e) := by
  unfold State.writeFader
  split
  · exact .refl s
  · exact .of_every rfl rfl rfl

theorem State.writeOn_owes (e : Byte × Byte) : s.Owes (fun ρ => everyRow ρ = true) (s.writeOn e) := by
  unfold State.writeOn
  split
  · exact .of_every rfl rfl rfl
  · exact .refl s

/-- A list of entries that marks every row, or is empty (R7, R8). -/
theorem State.foldl_markUnlessEmpty_owes {α : Type} {write : State → α → State} (es : List α)
    (h : ∀ (t : State) e, t.Owes (fun ρ => everyRow ρ = true) (write t e)) :
    s.Owes owed ((es.foldl write s).markUnlessEmpty es everyRow) := by
  cases es with
  | nil => exact .refl s
  | cons e es => exact (State.foldl_owes (e :: es) (fun t e _ => h t e) s).markRows

theorem State.writeReturn_owes {es : List ReturnEntry} {e : ReturnEntry} (he : e ∈ es) :
    s.Owes (fun ρ => namedRow es ρ = true) (s.writeReturn e) := by
  unfold State.writeReturn
  split
  · next r _ hr _ =>
    have hnamed : namedRow es (.ret r) = true := List.any_eq_true.mpr ⟨e, he, beq_iff_eq.mpr (indexArg_eq_some.mp hr)⟩
    exact (s.setReturn_owes r _).mono fun ρ hρ => hρ ▸ hnamed
  · exact .refl s

/-! #### The contributor stage -/

/-- Off air a caller or codec contributes nothing (R6). -/
theorem Source.contribution_off_air {x : Source} (h : Remote x) (hs : x.stage ≠ .air) : x.contribution = 0 := by
  rw [Source.contribution_remote h, if_neg hs]

/-- A move among the stages off air moves the row of the attached return alone (R10 to R12). -/
theorem State.moveStage_owes {i : SourceId} (hr : Remote s.sources[i]) {g : Stage} (hg : g ≠ .air) (hs : s.sources[i].stage ≠ .air) :
    s.Owes owed (s.moveStage i g) := by
  have hset : s.Owes (fun ρ => s.attachedRow i ρ = true) (s.setStage i g) := by
    refine s.setSource_owes i ?_ (fun _ _ _ => ?_) (fun _ hn ha => absurd (decide_eq_true ha) hn) fun _ _ _ _ _ => rfl
    · rw [Source.contribution_off_air hr hs]
      exact Source.contribution_off_air hr hg
    · exact or_congr_left (iff_of_false hg hs)
  exact hset.markRows

theorem State.putOnAir_owes (i : SourceId) : s.Owes owed (s.putOnAir i) := by
  have hset : s.Owes (fun ρ => everyRow ρ = true) (s.setSource i { s.sources[i] with stage := .air, guard := none }) :=
    .of_every rfl rfl rfl
  exact (hset.trans (((State.exitConference_owes _ i).mono fun _ _ => rfl).trans (State.raise_owes _ _ _))).markRows

theorem State.dropToHold_owes (i : SourceId) : s.Owes owed (s.dropToHold i) :=
  State.Owes.markRows (.of_every rfl rfl rfl)

/-- A source record that keeps its membership leaves the rows that hear a source's conference. -/
theorem State.fellowRow_of_setSource {i j : SourceId} {x : Source} (hx : x.conference = s.sources[i].conference) {ρ : Row}
    (h : (s.setSource i x).FellowRow j ρ) : s.FellowRow j ρ := by
  have hseat : ∀ a : SourceId, (s.setSource i x).sources[a].conference = s.sources[a].conference := fun a => by
    rw [State.setSource_read]
    split
    · next h => rw [hx, h]
    · rfl
  obtain ⟨k, hk, hseated⟩ := h
  refine ⟨k, (hseat j).symm.trans hk, ?_⟩
  cases ρ with
  | program => exact hseated
  | ret r =>
    obtain ⟨a, ha, hka⟩ := hseated
    exact ⟨a, ha, (hseat a).symm.trans hka⟩

/-- A source off air that hangs up and leaves its conference moves the rows that depend on it (R15). -/
theorem State.setSource_exitConference_owes (hl : s.ConferencesLawful) {i : SourceId} {x : Source}
    (hc : x.contribution = s.sources[i].contribution) (hm : x.conference = s.sources[i].conference)
    (ht : x.talkLevel = s.sources[i].talkLevel) :
    s.Owes (fun ρ => s.dependentRow i ρ = true) ((s.setSource i x).exitConference i) := by
  have hset : s.Owes (fun ρ => s.dependentRow i ρ = true) (s.setSource i x) := by
    refine s.setSource_owes i hc (fun r hn hr => absurd ?_ hn) (fun r hn ha => absurd ?_ hn) fun _ _ _ _ _ => ht
    · simp only [State.dependentRow, State.minusRow, State.inMinusSet_iff.mpr hr, Bool.or_true, Bool.true_or]
    · simp only [State.dependentRow, State.attachedRow, ha, decide_true, Bool.true_or]
  exact hset.trans ((State.exitConference_owes _ i).mono fun ρ hρ => by
    simp only [State.dependentRow, hl.ownConferenceRow (s.fellowRow_of_setSource hm hρ), Bool.or_true])

/-- The end of a call marks the rows that depend on the source (R15). -/
theorem State.endCall_owes (hl : s.ConferencesLawful) {i : SourceId} (hr : Remote s.sources[i]) (hs : s.sources[i].stage ≠ .air) :
    s.Owes owed (s.endCall i) := by
  have hexit : s.Owes (fun ρ => s.dependentRow i ρ = true)
      ((s.setSource i { s.sources[i] with stage := .vacant, guard := none, silent := false, silenceCount := 0 }).exitConference i) := by
    refine s.setSource_exitConference_owes hl ?_ rfl rfl
    rw [Source.contribution_off_air hr hs]
    exact Source.contribution_off_air hr (by simp)
  exact hexit.markRows.trans (State.listenersGone_owes _ i)

theorem State.forceDrop_owes (i : SourceId) : s.Owes owed (s.forceDrop i) := by
  have hset : s.Owes (fun ρ => everyRow ρ = true)
      (s.setSource i { s.sources[i] with stage := .vacant, silent := false, silenceCount := 0 }) := .of_every rfl rfl rfl
  exact hset.markRows.trans ((State.listenersGone_owes _ i).trans (State.raise_owes _ _ _))

/-- A guard's expiry moves the rows whose minus set holds the source (R22, R38). -/
theorem State.expireGuard_owes (i : SourceId) : s.Owes owed (s.expireGuard i) := by
  have hset : s.Owes (fun ρ => s.minusRow i ρ = true) (s.setSource i { s.sources[i] with guard := none }) :=
    s.setSource_owes i rfl (fun _ hn hm => absurd (State.inMinusSet_iff.mpr hm) hn) (fun _ _ _ => ⟨rfl, rfl⟩) fun _ _ _ _ _ => rfl
  exact hset.markRows

/-- A return record whose row is marked (R29, R35, R78). -/
theorem State.setReturn_markRows_owes (r : ReturnId) (x : Return) : s.Owes owed ((s.setReturn r x).markRows (onlyReturn r)) :=
  ((s.setReturn_owes r x).mono fun _ h => decide_eq_true h).markRows

theorem State.link_owes (r : ReturnId) (a : Option SourceId) : s.Owes owed (s.link r a) := by
  have hset := s.setReturn_markRows_owes (owed := owed) r { s.returns[r] with attached := a }
  unfold State.link
  cases a with
  | none => exact hset
  | some i => exact .ite (hset.trans (State.listenerGone_owes _ r)) hset

/-! #### Frames -/

theorem State.endFrame_owes : s.Owes owed s.endFrame := .of_tables rfl

/-- A ramp leaves every target (R120). -/
theorem State.mix_owes (x : Vector Sample 32) : s.Owes owed (s.mix x) := by
  have hcells : ∀ (j : Fin 25) (i : SourceId), (s.mix x).cells[j][i].target = s.cells[j][i].target := fun j i => by
    simp [State.mix, State.rampAll]
  rw [State.mix_frame]
  exact s.withCells_owes _ _ hcells

/-- A guard that counts is still running (R22). -/
theorem State.tickGuards_owes : s.Owes owed s.tickGuards := by
  have hread : ∀ j : SourceId, s.tickGuards.sources[j] = { s.sources[j] with guard := s.sources[j].guard.map (· - 1) } := fun j => by
    simp [State.tickGuards]
  refine s.withSources_owes s.tickGuards.sources (fun j => ?_) (fun _ j _ _ => ?_) (fun _ j _ _ => ?_) fun _ y _ _ => ?_ <;> rw [hread]
  · rfl
  · simp
  · exact ⟨rfl, rfl⟩

/-- A hold timer that counts leaves the active request (R70). -/
theorem State.tickHolds_owes : s.Owes owed s.tickHolds := by
  refine s.withArbiter_owes s.tickHolds.arbiter fun r _ => ?_
  simp [State.tickHolds, Arbitration.tick, Function.comp_def]

theorem State.hearSource_owes (x : Vector Sample 32) (i : SourceId) : s.Owes owed (s.hearSource x i) := by
  have hset : ∀ loud, s.Owes owed (s.setSource i (s.sources[i].hear s.silenceLimit loud)) := fun loud => by
    unfold Source.hear
    split <;> exact s.setSource_owes_of_unread i rfl rfl rfl rfl rfl
  unfold State.hearSource
  exact .ite (.ite ((hset _).trans (State.raise_owes _ _ _)) (hset _)) (.refl s)

theorem State.countClip_owes (r : ReturnId) : s.Owes owed (s.countClip r) := by
  rw [State.countClip_frame]
  exact .of_tables rfl

theorem State.watchTick_owes : s.Owes owed s.watchTick := by
  unfold State.watchTick
  split
  · have h := s.closeInterval_frame
    generalize s.closeInterval = t at h ⊢
    rw [h]
    exact .of_tables rfl
  · exact .of_tables rfl

theorem State.lockSync_owes : s.Owes owed s.lockSync := by
  rw [State.lockSync_frame]
  exact .of_tables rfl

/-- A frame arrival moves no row (R119, R134). -/
theorem State.takeFrame_owes (slots : Vector SlotWord 32) : s.Owes owed (s.takeFrame slots) := by
  have hmixed : s.Owes owed (s.mixed slots) :=
    s.endFrame_owes.trans ((State.mix_owes _ _).trans ((State.tickGuards_owes _).trans (State.tickHolds_owes _)))
  have hhear : ∀ t : State, t.Owes owed (t.hearAll (frameSamples slots)) := State.foldl_owes _ fun t i _ => t.hearSource_owes _ i
  have hclips : ∀ (t : State) flags, t.Owes owed (t.countClips flags) := fun t flags =>
    State.foldl_owes _ (fun t r _ => .ite (t.countClip_owes r) (.refl t)) t
  have hheard : s.Owes owed (s.heard slots) :=
    hmixed.trans ((hhear _).trans ((hclips _ _).trans (State.watchTick_owes _)))
  rw [State.takeFrame_eq]
  exact hheard.trans (State.lockSync_owes _)

theorem State.startFrame_owes : s.Owes owed s.startFrame := .of_tables rfl

theorem State.loseSync_owes : s.Owes owed s.loseSync := by
  have hsilence : s.Owes owed s.silenceOutputs := s.withCells_owes _ _ fun j i => by simp
  unfold State.loseSync
  generalize s.silenceOutputs = t at hsilence ⊢
  exact hsilence.trans (.of_tables rfl)

theorem State.bitPeriod_owes : s.Owes owed s.bitPeriod := by
  rw [State.bitPeriod_frame]
  exact .of_tables rfl

/-! #### Transactions and device reset -/

theorem State.arrive_owes (p : Port) (frame : List Byte) (clocked : Nat) : s.Owes owed (s.arrive p frame clocked) := by
  obtain ⟨slot, overrun, h⟩ := s.arrive_frame p frame clocked
  rw [h]
  exact s.setPort_owes p _

theorem State.transact_owes (p : Port) (bits : List Bool) : s.Owes owed (s.transact p bits) := by
  unfold State.transact
  split
  · exact .refl s
  · split
    · exact s.arrive_owes p _ _
    · exact s.setPort_owes p _
    · exact .refl s

/-- A part in device reset holds the tables and the cells of the reset. -/
theorem State.enterReset_owes : State.reset.Owes owed s.enterReset := .of_tables rfl

theorem State.leaveReset_owes : s.Owes owed s.leaveReset := .of_tables rfl

theorem execKeyLineChange_owes {t : State} {n : KeyId} {level : Level} (h : execKeyLineChange n level s = .next t) : s.Owes owed t := by
  unfold execKeyLineChange at h
  split at h
  · exact Host.Outcome.next.inj h ▸ .refl s
  · split at h <;> exact Host.Outcome.next.inj h ▸ s.setKey_owes n _

end Operations

end Sys2Proof.Machine
end

section
/-! ### The commands of the owning blocks, the composer's events, and every step -/

namespace Sys2Proof.Machine

open Claims

section Owners

variable {owed : Row → Prop} (s : State)

theorem State.withRemote_owes (b : Byte) {act : SourceId → State × Answer} (h : ∀ i, Remote s.sources[i] → s.Owes owed (act i).1) :
    s.Owes owed (s.withRemote b act).1 :=
  State.withRemote_keeps (P := s.Owes owed) b (.refl s) h

theorem ownerAttach_owes (b : Byte) : s.Owes owed (ownerAttach b s).1 := by
  refine s.withRemote_owes b fun i hr => ?_
  split
  · next hs => exact s.moveStage_owes hr (by decide) (by rw [hs]; decide)
  all_goals exact .refl s

theorem ownerScreen_owes (b : Byte) : s.Owes owed (ownerScreen b s).1 := by
  refine s.withRemote_owes b fun i hr => ?_
  split
  · exact .refl s
  · next hs => exact s.moveStage_owes hr (by decide) (by rw [hs]; decide)
  · next hs => exact s.moveStage_owes hr (by decide) (by rw [hs]; decide)
  all_goals exact .refl s

theorem ownerPark_owes (b : Byte) : s.Owes owed (ownerPark b s).1 := by
  refine s.withRemote_owes b fun i hr => ?_
  split
  · exact .refl s
  · next hs => exact s.moveStage_owes hr (by decide) (by rw [hs]; decide)
  · next hs => exact s.moveStage_owes hr (by decide) (by rw [hs]; decide)
  all_goals exact .refl s

theorem ownerMarkReady_owes (b : Byte) : s.Owes owed (ownerMarkReady b s).1 := by
  refine s.withRemote_owes b fun i hr => ?_
  split
  · exact .refl s
  · next hs => exact (s.moveStage_owes hr (by decide) (by rw [hs]; decide)).trans (State.raise_owes _ _ _)
  · next hs => exact (s.moveStage_owes hr (by decide) (by rw [hs]; decide)).trans (State.raise_owes _ _ _)
  all_goals exact .refl s

theorem ownerTake_owes (b : Byte) : s.Owes owed (ownerTake b s).1 := by
  refine s.withRemote_owes b fun i _ => ?_
  split
  · exact s.putOnAir_owes i
  all_goals exact .refl s

theorem ownerDrop_owes (b : Byte) : s.Owes owed (ownerDrop b s).1 := by
  refine s.withRemote_owes b fun i _ => ?_
  split
  · exact s.dropToHold_owes i
  all_goals exact .refl s

theorem ownerDetach_owes (hl : s.ConferencesLawful) (b : Byte) : s.Owes owed (ownerDetach b s).1 := by
  refine s.withRemote_owes b fun i hr => ?_
  split
  · exact .refl s
  · next hs => exact s.endCall_owes hl hr (by rw [hs]; decide)
  · next hs => exact s.endCall_owes hl hr (by rw [hs]; decide)
  · next hs => exact s.endCall_owes hl hr (by rw [hs]; decide)
  · exact s.forceDrop_owes i

/-- A free source is heard on no row, so its kind may change without a mark (R4, R5). -/
theorem ownerSetSourceKind_owes (source kind : Byte) : s.Owes owed (ownerSetSourceKind source kind s).1 := by
  unfold ownerSetSourceKind
  split
  · next i k _ _ =>
    split
    · next hf =>
      have hfree := (s.free_iff i).mp hf
      have hsilent : ∀ x : Source, x.stage = .vacant → x.on = false → x.contribution = 0 := fun x hs ho => by
        simp [Source.contribution, hs, ho]
      refine s.setSource_owes i ?_ (fun _ _ _ => Iff.rfl) (fun _ _ _ => ⟨rfl, rfl⟩) fun r x _ hx ho =>
        absurd ho (hfree.silentNow r x hx)
      rw [hsilent _ hfree.vacant hfree.off]
      exact hsilent _ hfree.vacant rfl
    · exact .refl s
  · exact .refl s

theorem ownerSetFaders_owes (es : List (Byte × Coeff)) : s.Owes owed (ownerSetFaders es s).1 := by
  unfold ownerSetFaders
  split
  · exact .refl s
  · exact s.foldl_markUnlessEmpty_owes es State.writeFader_owes

theorem ownerSetSourceOn_owes (es : List (Byte × Byte)) : s.Owes owed (ownerSetSourceOn es s).1 := by
  unfold ownerSetSourceOn
  split
  · exact .refl s
  · exact s.foldl_markUnlessEmpty_owes es State.writeOn_owes

theorem ownerSetAirFeed_owes (source : Byte) : s.Owes owed (ownerSetAirFeed source s).1 := by
  unfold ownerSetAirFeed
  split
  · exact .refl s
  · exact (s.withAirFeed_owes none).markRows
  · split
    · exact (s.withAirFeed_owes _).markRows
    · exact .refl s

theorem ownerSetReturn_owes (es : List ReturnEntry) : s.Owes owed (ownerSetReturn es s).1 := by
  unfold ownerSetReturn
  split
  · exact .refl s
  · exact (State.foldl_owes es (fun t _ he => t.writeReturn_owes he) s).markRows

theorem ownerSetMinusList_owes (ret : Byte) (bs : List Byte) : s.Owes owed (ownerSetMinusList ret bs s).1 := by
  unfold ownerSetMinusList
  split
  · exact .refl s
  · split
    · exact .refl s
    · split
      · exact .refl s
      · exact s.setReturn_markRows_owes _ _

theorem ownerClearReturn_owes (ret : Byte) : s.Owes owed (ownerClearReturn ret s).1 := by
  unfold ownerClearReturn
  split
  · exact .refl s
  · exact s.setReturn_markRows_owes _ _

theorem ownerSelectMonitor_owes (ret : Byte) : s.Owes owed (ownerSelectMonitor ret s).1 := by
  unfold ownerSelectMonitor
  split
  · exact .refl s
  · exact .of_tables rfl

theorem ownerAttachReturn_owes (ret source : Byte) : s.Owes owed (ownerAttachReturn ret source s).1 := by
  unfold ownerAttachReturn
  split
  · dsimp only
    simp only [apply_ite Prod.fst]
    exact .ite (.refl s) (.ite (.refl s) (.ite (.refl s) (s.link_owes _ _)))
  · exact .refl s

theorem ownerSetDipLevel_owes (ret : Byte) (l : Coeff) : s.Owes owed (ownerSetDipLevel ret l s).1 := by
  unfold ownerSetDipLevel
  split
  · exact .refl s
  · exact s.setReturn_markRows_owes _ _

theorem ownerSetTags_owes (ret b0 b1 b2 d : Byte) : s.Owes owed (ownerSetTags ret b0 b1 b2 d s).1 := by
  unfold ownerSetTags
  split
  · dsimp only
    split
    · exact .refl s
    · exact s.setReturn_owes_of_recipe _ rfl
  · exact .refl s

theorem ownerClearRefusals_owes (ret : Byte) : s.Owes owed (ownerClearRefusals ret s).1 := by
  unfold ownerClearRefusals
  split
  · exact .refl s
  · exact s.setReturn_owes_of_recipe _ rfl
  · refine s.withReturns_owes _ fun r _ => ?_
    simp only [Fin.getElem_fin, Vector.getElem_ofFn]
    rfl

/-- The members of a conference that a source enters: those before, and the source (R47, R48). -/
theorem State.ConferencesLawful.mem_entered {s : State} (hl : s.ConferencesLawful) {i j : SourceId} {k : ConferenceId}
    (hj : j ∈ s.conferences[k].members ∨ j = i) : j ∈ (s.enterConference i k).conferences[k].members := by
  show j ∈ (s.enterConference i k).seats.members k
  rw [State.enterConference_seats, Seats.mem_enter_members, Seats.mem_leave_members (State.conferencesLawful_iff.mp hl)]
  by_cases hji : j = i
  · exact .inr ⟨hji, rfl⟩
  · exact .inl ⟨hj.resolve_right hji, hji⟩

/-- A join marks the rows of the members of both conferences, the source among those of the new one (R47, R48). -/
theorem State.enterConference_markRows_owes (hl : s.ConferencesLawful) (i : SourceId) (k : ConferenceId) : s.Owes owed
    ((s.enterConference i k).markRows fun ρ => s.ownConferenceRow i ρ || (s.enterConference i k).memberRow k ρ) := by
  have hreturns : (s.enterConference i k).returns = s.returns := by rw [State.enterConference_frame]
  have hrow : ∀ (r : ReturnId) (a : SourceId), s.returns[r].attached = some a → a ∈ s.conferences[k].members ∨ a = i →
      (s.enterConference i k).memberRow k (.ret r) = true := fun r a ha hj => by
    simp only [State.memberRow, hreturns, ha]
    exact List.contains_iff_mem.mpr (hl.mem_entered hj)
  refine ((s.enterConference_owes i k).mono fun ρ hρ => Bool.or_eq_true_iff.mpr ?_).markRows
  obtain hfellow | hnew := hρ
  · exact .inl (hl.ownConferenceRow hfellow)
  · refine .inr ?_
    cases ρ with
    | program => simp [State.SeatedRow, State.attachedRow] at hnew
    | ret r =>
      obtain ⟨a, ha, hk⟩ | ha := hnew
      · exact hrow r a ha (.inl ((hl.agree a k).mp hk))
      · exact hrow r i (of_decide_eq_true ha) (.inr rfl)

theorem ownerJoin_owes (hl : s.ConferencesLawful) (source conference : Byte) : s.Owes owed (ownerJoin source conference s).1 := by
  unfold ownerJoin
  split
  · dsimp only
    simp only [apply_ite Prod.fst]
    exact .ite (.refl s) (.ite (.refl s) (.ite (.refl s) (.ite (.refl s) (s.enterConference_markRows_owes hl _ _))))
  · exact .refl s

theorem ownerLeave_owes (hl : s.ConferencesLawful) (source : Byte) : s.Owes owed (ownerLeave source s).1 := by
  unfold ownerLeave
  split
  · exact .refl s
  · split
    · exact .refl s
    · next hk => exact ((s.unlist_setMembership_owes hk).mono fun _ h => hl.memberRow h).markRows

theorem ownerSetConference_owes (hl : s.ConferencesLawful) (conference : Byte) (g b : Coeff) :
    s.Owes owed (ownerSetConference conference g b s).1 := by
  unfold ownerSetConference
  split
  · exact .refl s
  · exact ((s.setConference_owes _ _).mono fun _ h => hl.memberRow h).markRows

theorem ownerTalkDirect_owes (o : Byte) (ret : BitVec 7) (m p h : Byte) : s.Owes owed (ownerTalkDirect o ret m p h s).1 := by
  unfold ownerTalkDirect
  split
  · dsimp only
    exact s.talkOn_owes _ _
  · exact .refl s

theorem ownerTalkTag_owes (o : Byte) (tag : BitVec 7) (m p h : Byte) : s.Owes owed (ownerTalkTag o tag m p h s).1 := by
  unfold ownerTalkTag
  split
  · dsimp only
    exact s.talkGroup_owes _ _
  · exact .refl s

theorem ownerReleaseDirect_owes (o : Byte) (ret : BitVec 7) : s.Owes owed (ownerReleaseDirect o ret s).1 := by
  unfold ownerReleaseDirect
  split
  · next i r _ _ =>
    have hr := s.releaseOn_owes (owed := owed) r (byOriginator i)
    split <;> next hu => rw [hu] at hr; exact hr
  · exact .refl s

theorem ownerReleaseTag_owes (o : Byte) (tag : BitVec 7) : s.Owes owed (ownerReleaseTag o tag s).1 := by
  unfold ownerReleaseTag
  split
  · dsimp only
    exact s.releaseAll_owes _
  · exact .refl s

/-- A talk level moves the rows on which its source talks (R77). -/
theorem ownerSetTalkLevel_owes (source : Byte) (l : Coeff) : s.Owes owed (ownerSetTalkLevel source l s).1 := by
  unfold ownerSetTalkLevel
  split
  · exact .refl s
  · next i _ =>
    have hset : s.Owes (fun ρ => s.talkingRow i ρ = true) (s.setSource i { s.sources[i] with talkLevel := l }) :=
      s.setSource_owes i rfl (fun _ _ _ => Iff.rfl) (fun _ _ _ => ⟨rfl, rfl⟩) fun r x hn hx ho =>
        absurd (by simp only [State.talkingRow, hx, Option.any_some, ho, beq_self_eq_true]) hn
    exact hset.markRows

theorem ownerBindKey_owes (key o target m p h l km : Byte) : s.Owes owed (ownerBindKey key o target m p h l km s).1 := by
  unfold ownerBindKey
  split
  · dsimp only
    refine State.Owes.trans ?_ (State.setKey_owes _ _ _)
    split
    · exact s.unbind_owes _
    · exact .refl s
  · exact .refl s

theorem ownerUnbindKey_owes (key : Byte) : s.Owes owed (ownerUnbindKey key s).1 := by
  unfold ownerUnbindKey
  split
  · exact .refl s
  · split
    · exact .refl s
    · dsimp only
      exact s.unbind_owes _

theorem ownerAcknowledge_owes (p : Port) (kinds : Byte) : s.Owes owed (ownerAcknowledge p kinds s).1 := by
  unfold ownerAcknowledge
  split
  · exact s.setPort_owes p _
  · exact .refl s

theorem ownerSetNoticeMask_owes (p : Port) (kinds : Byte) : s.Owes owed (ownerSetNoticeMask p kinds s).1 := by
  unfold ownerSetNoticeMask
  split
  · exact s.setPort_owes p _
  · exact .refl s

end Owners

/-! #### The take and the completion -/

section Composer

variable {s : State}

/-- A row in flight carries the targets of the tables (R112). -/
theorem State.SettledLawful.takeRow (h : s.SettledLawful) : s.takeRow.SettledLawful := by
  unfold State.takeRow
  split
  · next e rest hf hq =>
    have hidle : ∀ ρ, s.flying ρ = false := fun ρ => by rw [State.flying, hf]; rfl
    refine ⟨fun ρ hρ hfly i => h.settled ρ ?_ (hidle ρ) i, fun f hfl _ i => ?_⟩
    · have hne : (e.row == ρ) = false := hfly
      rw [State.queued, hq, List.any_cons, hne, Bool.false_or]
      exact hρ
    · obtain rfl := Option.some.inj hfl
      simp only [State.rowTargets, Fin.getElem_fin, Vector.getElem_ofFn]
      rfl
  · exact h

/-- The row that completes is settled where it is not queued again; the others stand (R113). -/
theorem State.SettledLawful.completeRow (h : s.SettledLawful) : s.completeRow.SettledLawful := by
  unfold State.completeRow
  split
  · exact h
  · next f hf =>
    refine ⟨fun ρ hρ _ i => ?_, fun g hg => by cases hg⟩
    have hqueued : s.queued ρ = false := hρ
    have htarget : (s.complete f).targetOf ρ i = s.targetOf ρ i := State.AlikeAt.of_tables rfl rfl rfl rfl rfl ρ i
    have hrow : (s.complete f).row ρ = if f.row = ρ then
        Vector.ofFn fun i => (s.row f.row)[i].retarget f.targets[i] (if f.talk then s.talkStep else s.programStep) else s.row ρ :=
      State.setRow_read s f.row ρ _
    rw [htarget, hrow]
    split
    · next hfρ =>
      subst hfρ
      simpa using h.landing f hf hqueued i
    · next hfρ =>
      have hidle : s.flying ρ = false := by
        rw [State.flying, hf]
        exact beq_eq_false_iff_ne.mpr hfρ
      exact h.settled ρ hqueued hidle i

end Composer

/-! #### Every command -/

section Steps

variable {s t : State}

/-- A command's step is an arrival at its port, or nothing, and then perhaps its owner's event and the answer (R158, R160, R162). -/
theorem State.perform_arrives {c : Instr} {owner : State → State × Answer} (h : s.perform c owner = .next t) :
    ∃ u, (u = s ∨ ∃ p frame clocked, u = s.arrive p frame clocked) ∧ (t = u ∨ ∃ p code a, t = (owner u).1.answer p code a) := by
  unfold State.perform at h
  split at h
  · exact ⟨s, .inl rfl, .inl (Host.Outcome.next.inj h).symm⟩
  · next f _ =>
    obtain rfl := Host.Outcome.next.inj h
    obtain ⟨_, hr⟩ | ⟨_, u, hu, hr⟩ := s.runCommand_cases f owner
    · exact ⟨s, .inl rfl, .inl hr⟩
    · refine ⟨u, hu.imp id fun hu => ⟨_, _, _, hu⟩, ?_⟩
      obtain ⟨_, hr⟩ | ⟨_, hr⟩ := hr
      · exact .inr ⟨_, _, _, hr⟩
      · exact .inl hr

/-- A controller command keeps R115 where its owner marks what it moves. -/
theorem State.SettledLawful.perform (hs : s.SettledLawful) (hl : s.ConferencesLawful) {c : Instr} {owner : State → State × Answer}
    (ht : exec c s = .next t) (he : exec c s = s.perform c owner)
    (h : ∀ u : State, u.ConferencesLawful → u.Owes (fun _ => False) (owner u).1) : t.SettledLawful := by
  obtain ⟨u, hu, ht⟩ := State.perform_arrives (he ▸ ht)
  have harrival : s.Owes (fun _ => False) u ∧ u.ConferencesLawful := by
    obtain rfl | ⟨p, frame, clocked, rfl⟩ := hu
    · exact ⟨.refl _, hl⟩
    · obtain ⟨slot, overrun, ha⟩ := s.arrive_frame p frame clocked
      rw [ha]
      exact ⟨s.setPort_owes p _, hl.of_seats (s.setPort_seats p _)⟩
  obtain ⟨hsu, hlu⟩ := harrival
  obtain rfl | ⟨p, code, a, rfl⟩ := ht
  · exact hsu.settledLawful hs
  · exact ((hsu.trans (h u hlu)).trans (State.setPort_owes _ p _)).settledLawful hs

/-- An event of the part keeps R115 where it marks what it moves. -/
theorem State.SettledLawful.whenever (hs : s.SettledLawful) {event : State} {condition : Bool} (h : s.Owes (fun _ => False) event)
    (ht : s.whenever condition event = .next t) : t.SettledLawful :=
  State.whenever_keeps hs (fun _ => h.settledLawful hs) ht

/-- Every command keeps R115, by the command's own lemma. -/
theorem exec_keeps_settledLawful (c : Instr) (hl : s.ConferencesLawful) (hs : s.SettledLawful) (h : exec c s = .next t) :
    t.SettledLawful := by
  cases c with
  | commandTransaction p frame => exact hs.whenever (s.transact_owes _ _) h
  | fetch p dataIn => exact hs.whenever (s.transact_owes _ _) h
  | invalidTransaction p x => exact hs.whenever (s.transact_owes _ _) h
  | readSource p b => exact hs.perform hl h rfl fun u _ => .refl u
  | readReturn p b => exact hs.perform hl h rfl fun u _ => .refl u
  | readConference p b => exact hs.perform hl h rfl fun u _ => .refl u
  | readStatus p => exact hs.perform hl h rfl fun u _ => .refl u
  | readKey p b => exact hs.perform hl h rfl fun u _ => .refl u
  | readCell p row b => exact hs.perform hl h rfl fun u _ => .refl u
  | readWatch p => exact hs.perform hl h rfl fun u _ => .refl u
  | acknowledge p kinds => exact hs.perform hl h rfl fun u _ => ownerAcknowledge_owes u p kinds
  | setNoticeMask p kinds => exact hs.perform hl h rfl fun u _ => ownerSetNoticeMask_owes u p kinds
  | setSourceKind b k => exact hs.perform hl h rfl fun u _ => ownerSetSourceKind_owes u b k
  | setFaders es => exact hs.perform hl h rfl fun u _ => ownerSetFaders_owes u es
  | setSourceOn es => exact hs.perform hl h rfl fun u _ => ownerSetSourceOn_owes u es
  | take b => exact hs.perform hl h rfl fun u _ => ownerTake_owes u b
  | drop b => exact hs.perform hl h rfl fun u _ => ownerDrop_owes u b
  | setReturn es => exact hs.perform hl h rfl fun u _ => ownerSetReturn_owes u es
  | setMinusList r bs => exact hs.perform hl h rfl fun u _ => ownerSetMinusList_owes u r bs
  | clearReturn r => exact hs.perform hl h rfl fun u _ => ownerClearReturn_owes u r
  | setAirFeed b => exact hs.perform hl h rfl fun u _ => ownerSetAirFeed_owes u b
  | setAirDelay d => exact hs.perform hl h rfl fun _ _ => .of_tables rfl
  | setRampSteps p k => exact hs.perform hl h rfl fun _ _ => .of_tables rfl
  | setWatch w c th st => exact hs.perform hl h rfl fun _ _ => .of_tables rfl
  | selectMonitor r => exact hs.perform hl h rfl fun u _ => ownerSelectMonitor_owes u r
  | attach b => exact hs.perform hl h rfl fun u _ => ownerAttach_owes u b
  | detach b => exact hs.perform hl h rfl fun u hu => ownerDetach_owes u hu b
  | screen b => exact hs.perform hl h rfl fun u _ => ownerScreen_owes u b
  | park b => exact hs.perform hl h rfl fun u _ => ownerPark_owes u b
  | markReady b => exact hs.perform hl h rfl fun u _ => ownerMarkReady_owes u b
  | attachReturn r b => exact hs.perform hl h rfl fun u _ => ownerAttachReturn_owes u r b
  | join b k => exact hs.perform hl h rfl fun u hu => ownerJoin_owes u hu b k
  | leave b => exact hs.perform hl h rfl fun u hu => ownerLeave_owes u hu b
  | setConference k g b => exact hs.perform hl h rfl fun u hu => ownerSetConference_owes u hu k g b
  | talkDirect o r m p hc => exact hs.perform hl h rfl fun u _ => ownerTalkDirect_owes u o r m p hc
  | talkTag o g m p hc => exact hs.perform hl h rfl fun u _ => ownerTalkTag_owes u o g m p hc
  | releaseDirect o r => exact hs.perform hl h rfl fun u _ => ownerReleaseDirect_owes u o r
  | releaseTag o g => exact hs.perform hl h rfl fun u _ => ownerReleaseTag_owes u o g
  | setTalkLevel b l => exact hs.perform hl h rfl fun u _ => ownerSetTalkLevel_owes u b l
  | setDipLevel r l => exact hs.perform hl h rfl fun u _ => ownerSetDipLevel_owes u r l
  | setTags r a b c d => exact hs.perform hl h rfl fun u _ => ownerSetTags_owes u r a b c d
  | bindKey n o g m p hc l km => exact hs.perform hl h rfl fun u _ => ownerBindKey_owes u n o g m p hc l km
  | unbindKey n => exact hs.perform hl h rfl fun u _ => ownerUnbindKey_owes u n
  | clearRefusals r => exact hs.perform hl h rfl fun u _ => ownerClearRefusals_owes u r
  | setDebounce b => exact hs.perform hl h rfl fun _ _ => .of_tables rfl
  | frameArrival slots => exact hs.whenever (s.takeFrame_owes slots) h
  | silenceLimitReached i slots => exact hs.whenever (s.takeFrame_owes slots) h
  | watchIntervalExpiry slots => exact hs.whenever (s.takeFrame_owes slots) h
  | airExitGuardExpiry i => exact hs.whenever (s.expireGuard_owes i) h
  | holdExpiry r => exact hs.whenever (s.expireHold_owes r) h
  | shortFrame => exact hs.whenever s.startFrame_owes h
  | syncLoss => exact hs.whenever s.loseSync_owes h
  | keyLineChange n level => exact (execKeyLineChange_owes s h).settledLawful hs
  | keyAcceptance n => exact hs.whenever (s.acceptKey_owes n) h
  | recomposeTake => exact State.whenever_keeps hs (fun _ => hs.takeRow) h
  | recomposeCompletion => exact State.whenever_keeps hs (fun _ => hs.completeRow) h
  | deviceReset => exact Host.Outcome.next.inj h ▸ s.enterReset_owes.settledLawful State.reset_settledLawful
  | deviceResetEnd =>
    change (if s.inReset then .next s.leaveReset else .next s) = Host.Outcome.next t at h
    split at h <;> obtain rfl := Host.Outcome.next.inj h
    · exact s.leaveReset_owes.settledLawful hs
    · exact hs
  | frameSyncRisingEdge => exact hs.whenever s.startFrame_owes h

end Steps

end Sys2Proof.Machine

namespace Sys2Proof.Proofs

open Machine

/-- Settles O58: a step is a bit period, which moves nothing, or a command, by `exec_keeps_settledLawful`; of the laws of the tables the
proof needs that of the conferences. -/
theorem everyStepKeepsSettledRowsTrue : Obligations.EveryStepKeepsSettledRowsTrue := by
  intro s t hs hsettled h
  unfold step at h
  split at h
  · exact Host.Outcome.next.inj h ▸ s.bitPeriod_owes.settledLawful hsettled
  · next c rest _ =>
    have hrest : State.Owes (fun _ => False) s { s with pending := rest } := .of_tables rfl
    exact exec_keeps_settledLawful c (s := { s with pending := rest }) { hs.conferences with } (hrest.settledLawful hsettled) h

end Sys2Proof.Proofs
end

section
/-! ## What a controller command leaves alone

`State.path` gathers what no controller command of a port touches: the signal path, the contact of each key, and every other port but for its
notices. The writers of the tables leave it as it is, and an operation is the chain of its writers. -/

namespace Sys2Proof.Machine

/-! ### The signal path and the other ports -/

/-- A port but for its notices: another port's controller raises those alone (R160, R175). -/
def PortState.quiet (q : PortState) : PortState := { q with notices := PortState.reset.notices }

/-- The contact of a key, which the Key Input Block moves: its line, accepted level and debounce state (R89, R90). -/
def Key.contact (k : Key) : Level × Level × Debounce := (k.line, k.accepted, k.debounce)

/-- What a controller command of port `p` leaves alone. -/
@[ext] structure SignalPath (p : Port) where
  others : ∀ q : Port, q ≠ p → PortState
  contacts : KeyId → Level × Level × Debounce
  cells : Vector (Vector Cell 32) 25
  inFlight : Option InFlight
  held : Vector Sample 32
  assembly : Assembly
  outFrame : Option (Vector SlotWord 32)
  sync : SyncState
  gap : Option Nat
  clips : Vector Clip 24
  watchRemaining : Nat
  lossMark : Bool
  inReset : Bool
  pending : List Instr

/-- The signal path of a state and its other ports, as port `p` finds it. -/
def State.path (s : State) (p : Port) : SignalPath p where
  others q _ := (s.port q).quiet
  contacts n := s.keys[n].contact
  cells := s.cells
  inFlight := s.inFlight
  held := s.held
  assembly := s.assembly
  outFrame := s.outFrame
  sync := s.sync
  gap := s.gap
  clips := s.clips
  watchRemaining := s.watchRemaining
  lossMark := s.lossMark
  inReset := s.inReset
  pending := s.pending

theorem PortState.eq_of_quiet {q r : PortState} (h : q.quiet = r.quiet) : q = { r with notices := q.notices } := by
  obtain ⟨hslot, hoverrun, hdata, _, hmask⟩ := PortState.mk.inj h
  cases q
  simp_all

/-- States of one path differ in the ports, the tables, the arbiter, the keys, the queue and the settings alone. -/
theorem State.frame_of_path {s t : State} {p : Port} (h : t.path p = s.path p) : t = { s with
    ports := t.ports, sources := t.sources, airFeed := t.airFeed, airDelay := t.airDelay, returns := t.returns,
    monitor := t.monitor, conferences := t.conferences, arbiter := t.arbiter, keys := t.keys, debounceTime := t.debounceTime,
    queue := t.queue, programStep := t.programStep, talkStep := t.talkStep, watchCode := t.watchCode,
    clipThreshold := t.clipThreshold, silenceThreshold := t.silenceThreshold, silenceTime := t.silenceTime } := by
  obtain ⟨_, _, hcells, hflight, hheld, hassembly, hout, hsync, hgap, hclips, hwatch, hloss, hreset, hpending⟩ := SignalPath.mk.inj h
  cases t
  simp_all

theorem State.contact_of_path {s t : State} {p : Port} (h : t.path p = s.path p) (n : KeyId) :
    t.keys[n].line = s.keys[n].line ∧ t.keys[n].accepted = s.keys[n].accepted ∧ t.keys[n].debounce = s.keys[n].debounce := by
  have hcontact : t.keys[n].contact = s.keys[n].contact := congrFun (congrArg SignalPath.contacts h) n
  simpa [Key.contact] using hcontact

theorem State.port_of_path {s t : State} {p q : Port} (h : t.path p = s.path p) (hq : q ≠ p) :
    t.port q = { s.port q with notices := (t.port q).notices } :=
  PortState.eq_of_quiet (congrFun (congrFun (congrArg SignalPath.others h) q) hq)

/-! ### The writers of the tables -/

section Writers

variable (s : State) (p : Port)

@[simp] theorem State.setSource_path (i : SourceId) (x : Source) : (s.setSource i x).path p = s.path p := rfl
@[simp] theorem State.setReturn_path (r : ReturnId) (x : Return) : (s.setReturn r x).path p = s.path p := rfl
@[simp] theorem State.setConference_path (k : ConferenceId) (x : Conference) : (s.setConference k x).path p = s.path p := rfl
@[simp] theorem State.setArbitration_path (r : ReturnId) (a : Arbitration) : (s.setArbitration r a).path p = s.path p := rfl
@[simp] theorem State.mark_path (ρ : Row) (talk : Bool) : (s.mark ρ talk).path p = s.path p := rfl
@[simp] theorem State.countRefusal_path (r : ReturnId) : (s.countRefusal r).path p = s.path p := rfl
@[simp] theorem State.setMembership_path (i : SourceId) (k : Option ConferenceId) : (s.setMembership i k).path p = s.path p := rfl
@[simp] theorem State.unlist_path (k : ConferenceId) (i : SourceId) : (s.unlist k i).path p = s.path p := rfl

theorem State.withReturns_path (v : Vector Return 24) : { s with returns := v }.path p = s.path p := rfl

/-- A command's own port is its to write (R160, R162). -/
@[simp] theorem State.setPort_path (q : PortState) : (s.setPort p q).path p = s.path p :=
  SignalPath.ext (funext fun r => funext fun hr => by
      show ((s.setPort p q).port r).quiet = (s.port r).quiet
      rw [State.setPort_other s hr.symm q])
    rfl rfl rfl rfl rfl rfl rfl rfl rfl rfl rfl rfl rfl

@[simp] theorem State.raise_path (k : NoticeKind) (i : Nat) : (s.raise k i).path p = s.path p :=
  SignalPath.ext (funext fun r => funext fun _ => by
      show ((s.raise k i).port r).quiet = (s.port r).quiet
      rw [State.raise_port]
      split <;> rfl)
    rfl rfl rfl rfl rfl rfl rfl rfl rfl rfl rfl rfl rfl

/-- A key record rewritten with the contact it has. -/
theorem State.setKey_path (n : KeyId) {k : Key} (h : k.contact = s.keys[n].contact) : (s.setKey n k).path p = s.path p :=
  SignalPath.ext rfl (funext fun m => by
      show (s.setKey n k).keys[m].contact = s.keys[m].contact
      rw [State.setKey_read]
      split
      · next hm => exact hm ▸ h
      · rfl)
    rfl rfl rfl rfl rfl rfl rfl rfl rfl rfl rfl rfl

@[simp] theorem State.markRows_path (rows : Row → Bool) : (s.markRows rows).path p = s.path p := by
  rw [State.markRows_eq]
  rfl

@[simp] theorem State.markUnlessEmpty_path {α : Type} (es : List α) (rows : Row → Bool) :
    (s.markUnlessEmpty es rows).path p = s.path p := by
  rw [State.markUnlessEmpty, apply_ite (State.path · p), State.markRows_path, ite_self]

theorem State.foldl_path {β : Type} {f : State → β → State} (h : ∀ (t : State) b, (f t b).path p = t.path p) (l : List β) :
    (l.foldl f s).path p = s.path p :=
  foldl_keeps (fun t => t.path p = s.path p) f (fun t b ht => (h t b).trans ht) l s rfl

end Writers

/-! ### The operations -/

section Operations

variable (s : State) (p : Port)

@[simp] theorem State.exitConference_path (i : SourceId) : (s.exitConference i).path p = s.path p := by
  unfold State.exitConference
  split <;> simp

@[simp] theorem State.enterConference_path (i : SourceId) (k : ConferenceId) : (s.enterConference i k).path p = s.path p := by
  unfold State.enterConference
  dsimp only
  split <;> simp

theorem State.writeFader_path (e : Byte × Coeff) : (s.writeFader e).path p = s.path p := by
  unfold State.writeFader
  split <;> rfl

theorem State.writeOn_path (e : Byte × Byte) : (s.writeOn e).path p = s.path p := by
  unfold State.writeOn
  split <;> rfl

theorem State.writeReturn_path (e : ReturnEntry) : (s.writeReturn e).path p = s.path p := by
  unfold State.writeReturn
  split <;> rfl

@[simp] theorem State.talkOn_path (r : ReturnId) (q : Request) : (s.talkOn r q).1.path p = s.path p := by
  unfold State.talkOn
  dsimp only
  split <;> simp

theorem State.visit_path (r : ReturnId) (q : Request) : (s.visit r q).1.path p = s.path p := by
  unfold State.visit
  split <;> simp

@[simp] theorem State.talkGroup_path (t : TagId) (q : Request) : (s.talkGroup t q).1.path p = s.path p :=
  foldl_keeps (fun d : State × List TalkEntry => d.1.path p = s.path p) _
    (fun d r hd => by
      have hv := (d.1.visit_path p r q).trans hd
      split
      · split <;> next hr => rwa [hr] at hv
      · exact hd)
    (List.finRange 24) (s, []) rfl

theorem State.releaseOn_path (r : ReturnId) (f : Request → Bool) : (s.releaseOn r f).1.path p = s.path p := by
  unfold State.releaseOn
  split
  · rfl
  · dsimp only
    split <;> split <;> simp

@[simp] theorem State.releaseAll_path (f : Request → Bool) : (s.releaseAll f).1.path p = s.path p :=
  foldl_keeps (fun d : State × List (ReturnId × Released) => d.1.path p = s.path p) _
    (fun d r hd => by
      have hr := (d.1.releaseOn_path p r f).trans hd
      split <;> next h => rwa [h] at hr)
    (List.finRange 24) (s, []) rfl

@[simp] theorem State.listenerGone_path (r : ReturnId) : (s.listenerGone r).path p = s.path p := by
  unfold State.listenerGone
  dsimp only
  split
  · rfl
  · split <;> simp

@[simp] theorem State.listenersGone_path (i : SourceId) : (s.listenersGone i).path p = s.path p :=
  s.foldl_path p (fun t r => by split <;> simp) _

@[simp] theorem State.link_path (r : ReturnId) (a : Option SourceId) : (s.link r a).path p = s.path p := by
  unfold State.link
  split
  · simp
  · split <;> simp

@[simp] theorem State.unbind_path (n : KeyId) : (s.unbind n).1.path p = s.path p := by
  rw [State.unbind_fst, State.setKey_path, State.releaseAll_path]
  simp only [Key.contact]

@[simp] theorem State.moveStage_path (i : SourceId) (g : Stage) : (s.moveStage i g).path p = s.path p := by
  simp [State.moveStage, State.setStage]

@[simp] theorem State.putOnAir_path (i : SourceId) : (s.putOnAir i).path p = s.path p := by simp [State.putOnAir]

@[simp] theorem State.dropToHold_path (i : SourceId) : (s.dropToHold i).path p = s.path p := by simp [State.dropToHold]

@[simp] theorem State.endCall_path (i : SourceId) : (s.endCall i).path p = s.path p := by simp [State.endCall]

@[simp] theorem State.forceDrop_path (i : SourceId) : (s.forceDrop i).path p = s.path p := by simp [State.forceDrop]

end Operations

/-! ### The commands of the owning blocks -/

/-- An owning block that leaves the path of port `p`. -/
def LeavesPath (p : Port) (owner : State → State × Answer) : Prop := ∀ s : State, (owner s).1.path p = s.path p

section Owners

variable (p : Port)

/-- A stage command refuses, or moves a source (R9). -/
theorem leavesPath_withRemote (b : Byte) {act : State → SourceId → State × Answer} (h : ∀ i s, (act s i).1.path p = s.path p) :
    LeavesPath p fun s => s.withRemote b (act s) := fun s =>
  State.withRemote_keeps (P := fun t => t.path p = s.path p) b rfl fun i _ => h i s

theorem ownerAttach_leavesPath (b : Byte) : LeavesPath p (ownerAttach b) :=
  leavesPath_withRemote p b fun i s => by
    split <;> simp

theorem ownerScreen_leavesPath (b : Byte) : LeavesPath p (ownerScreen b) :=
  leavesPath_withRemote p b fun i s => by
    split <;> simp

theorem ownerPark_leavesPath (b : Byte) : LeavesPath p (ownerPark b) :=
  leavesPath_withRemote p b fun i s => by
    split <;> simp

theorem ownerMarkReady_leavesPath (b : Byte) : LeavesPath p (ownerMarkReady b) :=
  leavesPath_withRemote p b fun i s => by
    split <;> simp

theorem ownerTake_leavesPath (b : Byte) : LeavesPath p (ownerTake b) :=
  leavesPath_withRemote p b fun i s => by
    split <;> simp

theorem ownerDrop_leavesPath (b : Byte) : LeavesPath p (ownerDrop b) :=
  leavesPath_withRemote p b fun i s => by
    split <;> simp

theorem ownerDetach_leavesPath (b : Byte) : LeavesPath p (ownerDetach b) :=
  leavesPath_withRemote p b fun i s => by
    split <;> simp

theorem ownerSetSourceKind_leavesPath (source kind : Byte) : LeavesPath p (ownerSetSourceKind source kind) := fun s => by
  unfold ownerSetSourceKind
  split
  · split <;> rfl
  · rfl

theorem ownerSetFaders_leavesPath (es : List (Byte × Coeff)) : LeavesPath p (ownerSetFaders es) := fun s => by
  unfold ownerSetFaders
  split
  · rfl
  · exact (State.markUnlessEmpty_path _ p es everyRow).trans (s.foldl_path p (fun t => t.writeFader_path p) es)

theorem ownerSetSourceOn_leavesPath (es : List (Byte × Byte)) : LeavesPath p (ownerSetSourceOn es) := fun s => by
  unfold ownerSetSourceOn
  split
  · rfl
  · exact (State.markUnlessEmpty_path _ p es everyRow).trans (s.foldl_path p (fun t => t.writeOn_path p) es)

theorem ownerSetReturn_leavesPath (es : List ReturnEntry) : LeavesPath p (ownerSetReturn es) := fun s => by
  unfold ownerSetReturn
  split
  · rfl
  · exact (State.markRows_path _ p (namedRow es)).trans (s.foldl_path p (fun t => t.writeReturn_path p) es)

theorem ownerSetAirFeed_leavesPath (source : Byte) : LeavesPath p (ownerSetAirFeed source) := fun s => by
  unfold ownerSetAirFeed
  split
  · rfl
  · exact State.markRows_path _ p everyReturnRow
  · split
    · exact State.markRows_path _ p everyReturnRow
    · rfl

theorem ownerSetMinusList_leavesPath (ret : Byte) (bs : List Byte) : LeavesPath p (ownerSetMinusList ret bs) := fun s => by
  unfold ownerSetMinusList
  split
  · rfl
  · split
    · rfl
    · split <;> simp

theorem ownerClearReturn_leavesPath (ret : Byte) : LeavesPath p (ownerClearReturn ret) := fun s => by
  unfold ownerClearReturn
  split <;> simp

theorem ownerSelectMonitor_leavesPath (ret : Byte) : LeavesPath p (ownerSelectMonitor ret) := fun s => by
  unfold ownerSelectMonitor
  split <;> rfl

theorem ownerAttachReturn_leavesPath (ret source : Byte) : LeavesPath p (ownerAttachReturn ret source) := fun s => by
  unfold ownerAttachReturn
  split
  · dsimp only
    simp only [apply_ite Prod.fst, apply_ite (State.path · p), State.link_path, ite_self]
  · rfl

theorem ownerSetDipLevel_leavesPath (ret : Byte) (l : Coeff) : LeavesPath p (ownerSetDipLevel ret l) := fun s => by
  unfold ownerSetDipLevel
  split <;> simp

theorem ownerSetTags_leavesPath (ret b0 b1 b2 d : Byte) : LeavesPath p (ownerSetTags ret b0 b1 b2 d) := fun s => by
  unfold ownerSetTags
  split
  · dsimp only
    split <;> rfl
  · rfl

theorem ownerClearRefusals_leavesPath (ret : Byte) : LeavesPath p (ownerClearRefusals ret) := fun s => by
  unfold ownerClearRefusals
  split
  · rfl
  · exact s.setReturn_path p _ _
  · exact s.withReturns_path p _

theorem ownerJoin_leavesPath (source conference : Byte) : LeavesPath p (ownerJoin source conference) := fun s => by
  unfold ownerJoin
  split
  · dsimp only
    simp only [apply_ite Prod.fst, apply_ite (State.path · p), State.markRows_path, State.enterConference_path, ite_self]
  · rfl

theorem ownerLeave_leavesPath (source : Byte) : LeavesPath p (ownerLeave source) := fun s => by
  unfold ownerLeave
  split
  · rfl
  · split <;> simp

theorem ownerSetConference_leavesPath (conference : Byte) (g b : Coeff) : LeavesPath p (ownerSetConference conference g b) := fun s => by
  unfold ownerSetConference
  split <;> simp

theorem ownerTalkDirect_leavesPath (o : Byte) (ret : BitVec 7) (m pr h : Byte) : LeavesPath p (ownerTalkDirect o ret m pr h) := fun s => by
  unfold ownerTalkDirect
  split <;> simp

theorem ownerTalkTag_leavesPath (o : Byte) (tag : BitVec 7) (m pr h : Byte) : LeavesPath p (ownerTalkTag o tag m pr h) := fun s => by
  unfold ownerTalkTag
  split <;> simp

theorem ownerReleaseDirect_leavesPath (o : Byte) (ret : BitVec 7) : LeavesPath p (ownerReleaseDirect o ret) := fun s => by
  unfold ownerReleaseDirect
  split
  · next i r _ _ =>
    have hr := s.releaseOn_path p r (byOriginator i)
    split <;> next hu => rwa [hu] at hr
  · rfl

theorem ownerReleaseTag_leavesPath (o : Byte) (tag : BitVec 7) : LeavesPath p (ownerReleaseTag o tag) := fun s => by
  unfold ownerReleaseTag
  split <;> simp

theorem ownerSetTalkLevel_leavesPath (source : Byte) (l : Coeff) : LeavesPath p (ownerSetTalkLevel source l) := fun s => by
  unfold ownerSetTalkLevel
  split <;> simp

theorem ownerBindKey_leavesPath (key o target m pr h l km : Byte) : LeavesPath p (ownerBindKey key o target m pr h l km) := fun s => by
  unfold ownerBindKey
  split
  · dsimp only
    rw [State.setKey_path]
    · split <;> simp
    · simp only [Key.contact]
  · rfl

theorem ownerUnbindKey_leavesPath (key : Byte) : LeavesPath p (ownerUnbindKey key) := fun s => by
  unfold ownerUnbindKey
  split
  · rfl
  · split <;> simp

/-- ACKNOWLEDGE acts on the port that takes it (R177). -/
theorem ownerAcknowledge_leavesPath (kinds : Byte) : LeavesPath p (ownerAcknowledge p kinds) := fun s => by
  unfold ownerAcknowledge
  split <;> simp

/-- SET NOTICE MASK acts on the port that takes it (R175). -/
theorem ownerSetNoticeMask_leavesPath (kinds : Byte) : LeavesPath p (ownerSetNoticeMask p kinds) := fun s => by
  unfold ownerSetNoticeMask
  split <;> simp

end Owners

/-! ### Every controller command -/

/-- A controller command leaves what its owner leaves: its arrival and its answer write its own port (R160, R162). -/
theorem State.perform_path {s t : State} {c : Instr} {f : CommandFrame} {owner : State → State × Answer} (hf : commandFrame c = some f)
    (ht : exec c s = .next t) (he : exec c s = s.perform c owner) (h : LeavesPath f.port owner) : t.path f.port = s.path f.port := by
  have hrun : s.perform c owner = .next (s.runCommand f owner) := by simp only [State.perform, hf]
  obtain rfl := Host.Outcome.next.inj (ht.symm.trans (he.trans hrun))
  obtain ⟨_, hr⟩ | ⟨_, u, hu, hr⟩ := s.runCommand_cases f owner
  · rw [hr]
  · have harrived : u.path f.port = s.path f.port := by
      obtain rfl | rfl := hu
      · rfl
      · obtain ⟨slot, overrun, ha⟩ := s.arrive_frame f.port f.bytes (frameBits f.bytes).length
        rw [ha, State.setPort_path]
    obtain ⟨_, hr⟩ | ⟨_, hr⟩ := hr <;> rw [hr]
    · rw [State.answer, State.setPort_path, h u, harrived]
    · exact harrived

/-- Every controller command leaves the path of its port, by its owner's lemma. -/
theorem exec_path (c : Instr) {f : CommandFrame} {s t : State} (hf : commandFrame c = some f) (h : exec c s = .next t) :
    t.path f.port = s.path f.port := by
  cases c with
  | readSource p b => exact State.perform_path hf h rfl fun _ => rfl
  | readReturn p b => exact State.perform_path hf h rfl fun _ => rfl
  | readConference p b => exact State.perform_path hf h rfl fun _ => rfl
  | readStatus p => exact State.perform_path hf h rfl fun _ => rfl
  | readKey p b => exact State.perform_path hf h rfl fun _ => rfl
  | readCell p row b => exact State.perform_path hf h rfl fun _ => rfl
  | readWatch p => exact State.perform_path hf h rfl fun _ => rfl
  | acknowledge p kinds =>
    obtain rfl := Option.some.inj hf
    exact State.perform_path hf h rfl (ownerAcknowledge_leavesPath p kinds)
  | setNoticeMask p kinds =>
    obtain rfl := Option.some.inj hf
    exact State.perform_path hf h rfl (ownerSetNoticeMask_leavesPath p kinds)
  | setSourceKind b k => exact State.perform_path hf h rfl (ownerSetSourceKind_leavesPath _ b k)
  | setFaders es => exact State.perform_path hf h rfl (ownerSetFaders_leavesPath _ es)
  | setSourceOn es => exact State.perform_path hf h rfl (ownerSetSourceOn_leavesPath _ es)
  | take b => exact State.perform_path hf h rfl (ownerTake_leavesPath _ b)
  | drop b => exact State.perform_path hf h rfl (ownerDrop_leavesPath _ b)
  | setReturn es => exact State.perform_path hf h rfl (ownerSetReturn_leavesPath _ es)
  | setMinusList r bs => exact State.perform_path hf h rfl (ownerSetMinusList_leavesPath _ r bs)
  | clearReturn r => exact State.perform_path hf h rfl (ownerClearReturn_leavesPath _ r)
  | setAirFeed b => exact State.perform_path hf h rfl (ownerSetAirFeed_leavesPath _ b)
  | setAirDelay d => exact State.perform_path hf h rfl fun _ => rfl
  | setRampSteps p k => exact State.perform_path hf h rfl fun _ => rfl
  | setWatch w c th st => exact State.perform_path hf h rfl fun _ => rfl
  | selectMonitor r => exact State.perform_path hf h rfl (ownerSelectMonitor_leavesPath _ r)
  | attach b => exact State.perform_path hf h rfl (ownerAttach_leavesPath _ b)
  | detach b => exact State.perform_path hf h rfl (ownerDetach_leavesPath _ b)
  | screen b => exact State.perform_path hf h rfl (ownerScreen_leavesPath _ b)
  | park b => exact State.perform_path hf h rfl (ownerPark_leavesPath _ b)
  | markReady b => exact State.perform_path hf h rfl (ownerMarkReady_leavesPath _ b)
  | attachReturn r b => exact State.perform_path hf h rfl (ownerAttachReturn_leavesPath _ r b)
  | join b k => exact State.perform_path hf h rfl (ownerJoin_leavesPath _ b k)
  | leave b => exact State.perform_path hf h rfl (ownerLeave_leavesPath _ b)
  | setConference k g b => exact State.perform_path hf h rfl (ownerSetConference_leavesPath _ k g b)
  | talkDirect o r m p hc => exact State.perform_path hf h rfl (ownerTalkDirect_leavesPath _ o r m p hc)
  | talkTag o g m p hc => exact State.perform_path hf h rfl (ownerTalkTag_leavesPath _ o g m p hc)
  | releaseDirect o r => exact State.perform_path hf h rfl (ownerReleaseDirect_leavesPath _ o r)
  | releaseTag o g => exact State.perform_path hf h rfl (ownerReleaseTag_leavesPath _ o g)
  | setTalkLevel b l => exact State.perform_path hf h rfl (ownerSetTalkLevel_leavesPath _ b l)
  | setDipLevel r l => exact State.perform_path hf h rfl (ownerSetDipLevel_leavesPath _ r l)
  | setTags r a b c d => exact State.perform_path hf h rfl (ownerSetTags_leavesPath _ r a b c d)
  | bindKey n o g m p hc l km => exact State.perform_path hf h rfl (ownerBindKey_leavesPath _ n o g m p hc l km)
  | unbindKey n => exact State.perform_path hf h rfl (ownerUnbindKey_leavesPath _ n)
  | clearRefusals r => exact State.perform_path hf h rfl (ownerClearRefusals_leavesPath _ r)
  | setDebounce b => exact State.perform_path hf h rfl fun _ => rfl
  | commandTransaction | fetch | invalidTransaction | frameArrival | silenceLimitReached | watchIntervalExpiry | airExitGuardExpiry
  | holdExpiry | shortFrame | syncLoss | keyLineChange | keyAcceptance | recomposeTake | recomposeCompletion | deviceReset
  | deviceResetEnd | frameSyncRisingEdge => cases hf

end Sys2Proof.Machine

namespace Sys2Proof.Proofs

open Machine

/-- Settles O12, by `exec_path`. -/
theorem controllerCommandsLeaveTheSignalPath : Obligations.ControllerCommandsLeaveTheSignalPath := by
  intro c f s t hf h
  have hpath := exec_path c hf h
  exact ⟨State.frame_of_path hpath, State.contact_of_path hpath, fun p hp => State.port_of_path hpath hp⟩

end Sys2Proof.Proofs
end

section
/-! ## Output pins, frame sync edges and the loss of sync -/

namespace Sys2Proof.Machine

/-! ### Output pins (R132, R135, R142, R173) -/

/-- The bits of a lane in an output frame of held samples: bit period n carries a bit of slot n / 32 (R132, R173). -/
theorem laneBit_outputSlot (held : Vector Sample 32) (lane : Fin 4) {n : Nat} {j : Fin 32} (hn : n < 256)
    (hj : j.val = 8 * lane.val + n / 32) :
    laneBit (held.map outputSlot) lane n = if n % 32 < 24 then held[j].getLsbD (23 - n % 32) else false := by
  simp only [laneBit, dif_pos hn, Vector.getElem_map, ← hj]
  exact outputSlot_bit held[j] (Nat.mod_lt n (by decide))

theorem State.dataPin_stopped (s : State) (lane : Fin 4) : s.dataPin false lane = false := by simp [State.dataPin]

/-- In device reset and between frames an output pin drives a zero (R135, R142). -/
theorem State.dataPin_idle {s : State} (h : s.inReset = true ∨ s.assembly = .waiting ∨ s.outFrame = none) (lane : Fin 4) :
    s.dataPin true lane = false := by
  unfold State.dataPin
  obtain h | h | h := h
  · simp [h]
  · simp [h]
  · split
    · simp_all
    · rfl

theorem State.dataPin_sends {s : State} {n : Nat} {slots : Vector SlotWord 32} (hr : s.inReset = false)
    (ha : s.assembly = .collecting n) (ho : s.outFrame = some slots) (lane : Fin 4) : s.dataPin true lane = laneBit slots lane n := by
  simp [State.dataPin, hr, ha, ho]

/-! ### The loss of sync (R129, R139, R154) -/

/-- Every current value at 0, the targets and steps as they are (R129). -/
theorem State.silenceOutputs_eq (s : State) : s.silenceOutputs = { s with
    held := Vector.replicate 32 0
    cells := s.cells.map fun cs => cs.map fun c => { c with current := 0 } } := by
  have hcells : (Vector.ofFn fun j : Fin 25 => Vector.ofFn fun i : Fin 32 => { s.cells[j][i] with current := 0 }) =
      s.cells.map fun cs => cs.map fun c => { c with current := 0 } := by
    ext
    simp
  rw [State.silenceOutputs, hcells]

end Sys2Proof.Machine

namespace Sys2Proof.Proofs

open Machine

/-- Settles O49: what each pin drives, then each event where its condition holds and where it does not. -/
theorem edgesStartFramesAndLossSilences : Obligations.EdgesStartFramesAndLossSilences := by
  refine ⟨fun s lane => ⟨s.dataPin_stopped lane, fun h => s.dataPin_idle h lane, fun n held j hr hn ha ho hj => ?_⟩, fun s hr => ?_⟩
  · rw [State.dataPin_sends hr ha ho, laneBit_outputSlot held lane hn hj]
  · refine ⟨State.whenever_of _ hr, fun n ha => ?_, fun ha => ?_, fun hs => ?_, fun hs => ?_⟩
    · simp only [exec, execShortFrame, ha, Assembly.collects, State.whenever_of _ hr, State.startFrame]
    · simp only [exec, execShortFrame, ha, Assembly.collects, State.whenever_false]
    · simp only [exec, execSyncLoss, hs, decide_true, State.whenever_of _ hr, State.loseSync, State.silenceOutputs_eq,
        State.raiseSyncChange]
    · simp only [exec, execSyncLoss, hs, decide_false, State.whenever_false]

end Sys2Proof.Proofs
end

section
/-! ## Ramps, sums and limits -/

namespace Sys2Proof.Machine

/-! ### Ramps (R120, R121) -/

theorem rampValue_near {v w : Coeff} {k : Nat} (h : Nat.dist v.toNat w.toNat ≤ k) : rampValue v w k = w := by
  have hd : (w.toNat - v.toNat) + (v.toNat - w.toNat) ≤ k := by rwa [add_comm]
  simp only [rampValue, if_pos hd]

/-- A ramp below its target rises by a step. -/
theorem rampValue_rises {v w : Coeff} {k : Nat} (h : v.toNat + k < w.toNat) : (rampValue v w k).toNat = v.toNat + k := by
  have hd : ¬ (w.toNat - v.toNat) + (v.toNat - w.toNat) ≤ k := by omega
  simp only [rampValue, if_neg hd, if_pos (show v.toNat < w.toNat by omega), BitVec.toNat_ofNat]
  omega

/-- A ramp above its target falls by a step. -/
theorem rampValue_falls {v w : Coeff} {k : Nat} (h : w.toNat + k < v.toNat) : (rampValue v w k).toNat = v.toNat - k := by
  have hd : ¬ (w.toNat - v.toNat) + (v.toNat - w.toNat) ≤ k := by omega
  simp only [rampValue, if_neg hd, if_neg (show ¬ v.toNat < w.toNat by omega), BitVec.toNat_ofNat]
  omega

/-- The value `u` stands `m` nearer to the target `w` than `v` does, at the target at the nearest, and on the same side of it. -/
structure Approaches (w v : Coeff) (m : Nat) (u : Coeff) : Prop where
  dist : Nat.dist u.toNat w.toNat = Nat.dist v.toNat w.toNat - m
  below : v.toNat ≤ w.toNat → u.toNat ≤ w.toNat
  above : w.toNat ≤ v.toNat → w.toNat ≤ u.toNat

theorem Approaches.trans {w v u x : Coeff} {m n : Nat} (h : Approaches w v m u) (g : Approaches w u n x) : Approaches w v (m + n) x where
  dist := by rw [g.dist, h.dist, Nat.sub_sub]
  below := g.below ∘ h.below
  above := g.above ∘ h.above

/-- A frame of a ramp comes a step nearer to the target (R120). -/
theorem rampValue_approaches (v w : Coeff) (k : Nat) : Approaches w v k (rampValue v w k) := by
  by_cases hnear : Nat.dist v.toNat w.toNat ≤ k
  · rw [rampValue_near hnear]
    exact ⟨by simp [Nat.sub_eq_zero_of_le hnear], fun _ => le_rfl, fun _ => le_rfl⟩
  · unfold Nat.dist at hnear
    obtain hup | hdown : v.toNat + k < w.toNat ∨ w.toNat + k < v.toNat := by omega
    · have hv := rampValue_rises hup
      exact ⟨by unfold Nat.dist; omega, by omega, by omega⟩
    · have hv := rampValue_falls hdown
      exact ⟨by unfold Nat.dist; omega, by omega, by omega⟩

/-- A current value after n frames of one target and step (R120, R121). -/
def rampAfter (w : Coeff) (k n : Nat) (v : Coeff) : Coeff := (fun x => rampValue x w k)^[n] v

theorem rampAfter_succ (v w : Coeff) (k n : Nat) : rampAfter w k (n + 1) v = rampValue (rampAfter w k n v) w k :=
  Function.iterate_succ_apply' _ n v

theorem rampAfter_approaches (v w : Coeff) (k n : Nat) : Approaches w v (n * k) (rampAfter w k n v) := by
  induction n with
  | zero => exact ⟨by simp [rampAfter], id, id⟩
  | succ n ih =>
    rw [rampAfter_succ, Nat.succ_mul]
    exact ih.trans (rampValue_approaches _ w k)

/-- After the distance divided by the step, rounded up, a ramp stands on its target (R121). -/
theorem rampAfter_eq_target {v w : Coeff} {k n : Nat} (hk : 1 ≤ k) (hn : (Nat.dist v.toNat w.toNat + k - 1) / k ≤ n) :
    rampAfter w k n v = w := by
  have hcover : Nat.dist v.toNat w.toNat ≤ n * k := by
    have hlt : Nat.dist v.toNat w.toNat + k - 1 < (n + 1) * k := (Nat.div_lt_iff_lt_mul hk).mp (Nat.lt_succ_of_le hn)
    rw [Nat.succ_mul] at hlt
    omega
  have hdist := (rampAfter_approaches v w k n).dist
  rw [Nat.sub_eq_zero_of_le hcover] at hdist
  exact BitVec.eq_of_toNat_eq (Nat.eq_of_dist_eq_zero hdist)

/-! ### Sums (R123) -/

/-- The rounded sum is the floor of (acc + 8192) / 16384. -/
theorem roundSum_floor (acc : Int) : 16384 * roundSum acc ≤ acc + 8192 ∧ acc + 8192 < 16384 * (roundSum acc + 1) := by
  unfold roundSum
  omega

theorem roundSum_nearest {acc y : Int} (h : 2 * |acc - 16384 * y| < 16384) : roundSum acc = y := by
  obtain ⟨hlow, hhigh⟩ := abs_lt.mp (show |acc - 16384 * y| < 8192 by omega)
  unfold roundSum
  omega

/-! ### Limits (R124, R125) -/

theorem saturate_range (y : Int) : -8388608 ≤ saturate y ∧ saturate y ≤ 8388607 := by
  unfold saturate
  omega

theorem saturate_of_range {y : Int} (hl : -8388608 ≤ y) (hh : y ≤ 8388607) : saturate y = y := by
  unfold saturate
  omega

theorem clampCeiling_eq (c : Nat) (y : Int) : clampCeiling c y = max (-(c : Int)) (min c y) := by
  unfold clampCeiling
  split
  · omega
  · split <;> omega

/-- A ceiling within 24 bits absorbs the saturation: a return's sample is the sum held within its ceiling. -/
theorem returnSample_eq {c : Nat} (h : c ≤ 8388607) (y : Int) : returnSample c y = max (-(c : Int)) (min c y) := by
  rw [returnSample, clampCeiling_eq, saturate]
  omega

theorem clippedSample_iff {c : Nat} (h : c ≤ 8388607) (y : Int) : clippedSample c y = true ↔ y < -(c : Int) ∨ (c : Int) < y := by
  rw [clippedSample, decide_eq_true_iff, returnSample_eq h]
  omega

end Sys2Proof.Machine

namespace Sys2Proof.Proofs

open Machine

/-- Settles O54: the ramp by its frames, the sum by its floor, the limits by `returnSample_eq`. -/
theorem rampsSumsAndLimitsAreExact : Obligations.RampsSumsAndLimitsAreExact := by
  refine ⟨fun v w k n => ?_, ⟨roundSum_floor, fun acc y => roundSum_nearest, rfl, rfl⟩, fun c y hc => ?_⟩
  · obtain ⟨hdist, hbelow, habove⟩ := rampAfter_approaches v w k n
    exact ⟨hdist, hbelow, habove, rampAfter_eq_target⟩
  · obtain ⟨hlow, hhigh⟩ := saturate_range y
    have hsample := returnSample_eq hc y
    exact ⟨by omega, by omega, hlow, hhigh, fun _ _ => by omega, saturate_of_range, clippedSample_iff hc y, rfl⟩

end Sys2Proof.Proofs
end

section
/-! ## The front of the queue, and the part held in device reset -/

namespace Sys2Proof.Machine

/-! ### A step (log entries 1, 2 and 10) -/

theorem step_cons {s : State} {c : Instr} {rest : List Instr} (h : s.pending = c :: rest) :
    step s = exec c { s with pending := rest } := by
  simp only [step, h]

theorem step_nil {s : State} (h : s.pending = []) : step s = .next s.bitPeriod := by
  simp only [step, h]

theorem State.bitPeriod_inReset {s : State} (h : s.inReset = true) : s.bitPeriod = s := if_pos h

theorem State.bitPeriod_awake {s : State} (h : s.inReset = false) : s.bitPeriod = { s with assembly := s.assembly.count } :=
  if_neg (Bool.eq_false_iff.mp h)

/-- A frame that is being collected is counted up to its 255th bit period (R133). -/
theorem Assembly.count_collecting (n : Nat) : (Assembly.collecting n).count = .collecting (if n < 255 then n + 1 else n) := by
  simp only [Assembly.count, apply_ite Assembly.collecting]

/-- While the assembly waits, a bit period is not taken in (R133). -/
theorem State.bitPeriod_waiting {s : State} (h : s.assembly = .waiting) : s.bitPeriod = s := by
  rw [State.bitPeriod_frame]
  unfold State.bitPeriod
  split
  · rfl
  · rw [h, Assembly.count, ← h]

/-! ### In device reset (R142, R158) -/

theorem State.whenever_inReset {s : State} (h : s.inReset = true) (condition : Bool) (event : State) :
    s.whenever condition event = .next s := if_pos h

theorem State.perform_inReset {s : State} (h : s.inReset = true) {c : Instr} {owner : State → State × Answer}
    (he : exec c s = s.perform c owner) : exec c s = .next s := by
  rw [he, State.perform]
  split
  · rfl
  · rw [State.runCommand, if_pos h]

/-- A part in device reset takes in no transaction and no event (R142, R158). -/
theorem exec_inReset {s : State} (h : s.inReset = true) {c : Instr} (hstart : c ≠ .deviceReset) (hend : c ≠ .deviceResetEnd)
    (hline : ∀ n l, c ≠ .keyLineChange n l) : exec c s = .next s := by
  cases c with
  | deviceReset => exact absurd rfl hstart
  | deviceResetEnd => exact absurd rfl hend
  | keyLineChange n l => exact absurd rfl (hline n l)
  | commandTransaction | fetch | invalidTransaction | frameArrival | silenceLimitReached | watchIntervalExpiry | airExitGuardExpiry
  | holdExpiry | shortFrame | syncLoss | keyAcceptance | recomposeTake | recomposeCompletion | frameSyncRisingEdge =>
    exact State.whenever_inReset h _ _
  | readSource | readReturn | readConference | readStatus | readKey | acknowledge | setNoticeMask | readCell | readWatch
  | setSourceKind | setFaders | setSourceOn | take | drop | setReturn | setMinusList | clearReturn | setAirFeed | setAirDelay
  | setRampSteps | setWatch | selectMonitor | attach | detach | screen | park | markReady | attachReturn | join | leave
  | setConference | talkDirect | talkTag | releaseDirect | releaseTag | setTalkLevel | setDipLevel | setTags | bindKey | unbindKey
  | clearRefusals | setDebounce =>
    exact State.perform_inReset h rfl

/-- A contact line that moves in device reset moves its pin alone (log entry 9). -/
theorem exec_keyLineChange_inReset {s : State} (h : s.inReset = true) (n : KeyId) (l : Level) :
    exec (.keyLineChange n l) s = .next (s.setKey n { s.keys[n] with line := l }) := by
  show execKeyLineChange n l s = _
  by_cases hl : s.keys[n].line = l
  · have hset : s.setKey n s.keys[n] = s := by simp [State.setKey]
    rw [execKeyLineChange, if_pos hl, ← hl, hset]
  · rw [execKeyLineChange, if_neg hl, if_pos h]

/-- A key whose line is HIGH goes through a device reset to its reset record (R89). -/
theorem Key.inReset_wake {k : Key} (h : k.line = .high) (time : Nat) : k.inReset.wake time = Key.reset := by
  rw [Key.inReset, h]
  rfl

/-- With every line HIGH a device reset and its end leave the reset state, the waiting commands kept (R142). -/
theorem State.leaveReset_enterReset {s : State} (h : ∀ n : KeyId, s.keys[n].line = .high) :
    s.enterReset.leaveReset = { State.reset with pending := s.pending } := by
  have hkeys : (Vector.ofFn fun n : KeyId => s.enterReset.keys[n].wake s.enterReset.debounceTime) = State.reset.keys := by
    ext n hn
    rw [Vector.getElem_ofFn, State.enterReset_keys, Key.inReset_wake (h ⟨n, hn⟩)]
    simp [State.reset]
  rw [State.leaveReset, hkeys]
  rfl

end Sys2Proof.Machine

namespace Sys2Proof.Proofs

open Machine

/-- Settles O1: a command in front, and the bit periods of an empty queue. -/
theorem stepRunsTheFrontOfTheQueue : Obligations.StepRunsTheFrontOfTheQueue := by
  refine ⟨fun c rest s h => step_cons h, fun c s => step_cons rfl, fun s h => ⟨?_, fun hr n ha => ?_⟩⟩
  · rintro (hr | ha)
    · rw [step_nil h, State.bitPeriod_inReset hr]
    · rw [step_nil h, State.bitPeriod_waiting ha]
  · rw [step_nil h, State.bitPeriod_awake hr, ha, Assembly.count_collecting]

/-- Settles O5: the end of a reset, then what the part takes in before it. -/
theorem deviceResetHoldsThePartUntilItsEnd : Obligations.DeviceResetHoldsThePartUntilItsEnd := by
  refine ⟨⟨fun s h => if_pos h, fun s h => if_neg (Bool.eq_false_iff.mp h), fun s h => ⟨s.enterReset, rfl, ?_⟩⟩, fun s h => ?_⟩
  · rw [← State.leaveReset_enterReset h]
    rfl
  · exact ⟨fun c => exec_inReset h, exec_keyLineChange_inReset h⟩

end Sys2Proof.Proofs
end

section
/-! ## The mix of a frame arrival -/

namespace Sys2Proof.Machine

open Claims

/-! ### Cells (R119, R120) -/

/-- The ramp as the rule writes it, by the distance from the target (R120). -/
theorem Cell.ramp_current_toNat (c : Cell) : c.ramp.current.toNat = ramped c := by
  show (rampValue c.current c.target c.step).toNat = _
  have hdist : Nat.dist c.target.toNat c.current.toNat = (c.target.toNat - c.current.toNat) + (c.current.toNat - c.target.toNat) := rfl
  unfold ramped
  split
  · next hnear => rw [rampValue_near (Nat.dist_comm _ _ ▸ hnear)]
  · split
    · exact rampValue_rises (by omega)
    · exact rampValue_falls (by omega)

theorem ramped_le (c : Cell) : ramped c ≤ 65535 := by
  rw [← Cell.ramp_current_toNat]
  exact Nat.le_of_lt_succ c.ramp.current.isLt

theorem Cell.ramp_eq (c : Cell) : c.ramp = { c with current := BitVec.ofNat 16 (ramped c) } := by
  rw [← Cell.ramp_current_toNat, BitVec.ofNat_toNat, BitVec.setWidth_eq]
  rfl

theorem State.rampAll_cell (s : State) (ρ : Row) (i : SourceId) : (s.rampAll.row ρ)[i] = (s.row ρ)[i].ramp := by
  simp [State.rampAll, State.row]

/-! ### Sums and limits (R122 to R125) -/

theorem frameSamples_toInt (slots : Vector SlotWord 32) (i : SourceId) : (frameSamples slots)[i].toInt = sample slots i := by
  simp [frameSamples, slotSample, sample]

/-- The sum of a row from its ramped cells, rounded once (R122, R123). -/
theorem State.rampAll_rowSum (s : State) (slots : Vector SlotWord 32) (ρ : Row) :
    s.rampAll.rowSum (frameSamples slots) ρ = rounded s slots ρ := by
  have hacc : accumulator (s.rampAll.row ρ) (frameSamples slots) = ∑ i : SourceId, sample slots i * (ramped (s.row ρ)[i] : Int) := by
    rw [accumulator, Fin.sum_univ_def]
    refine congrArg List.sum (List.map_congr_left fun i _ => ?_)
    rw [frameSamples_toInt, State.rampAll_cell, Cell.ramp_current_toNat]
  rw [State.rowSum, roundSum, hacc, rounded]

theorem saturate_eq_saturated (y : Int) : saturate y = saturated y := by
  unfold saturate saturated
  split
  · omega
  · split <;> omega

/-- A return's sample lies within 24 bits under every ceiling (R124). -/
theorem returnSample_range (c : Nat) (y : Int) : -8388608 ≤ returnSample c y ∧ returnSample c y ≤ 8388607 := by
  have hrange := saturate_range y
  rw [returnSample, clampCeiling_eq]
  omega

theorem toInt_ofInt_sample {y : Int} (h : -8388608 ≤ y ∧ y ≤ 8388607) : (BitVec.ofInt 24 y).toInt = y :=
  BitVec.toInt_ofInt_eq_self (by decide) h.1 (Int.lt_add_one_of_le h.2)

theorem State.returnSample_eq_final (s : State) (slots : Vector SlotWord 32) (r : ReturnId) :
    returnSample s.returns[r].ceiling (rounded s slots (.ret r)) = finalSample s slots r := by
  rw [returnSample, saturate_eq_saturated]
  rfl

theorem State.returnOut_toInt (s : State) (x : Vector Sample 32) (r : ReturnId) :
    (s.returnOut x r).toInt = returnSample s.returns[r].ceiling (s.rowSum x (.ret r)) :=
  toInt_ofInt_sample (returnSample_range _ _)

theorem State.programOut_toInt (s : State) (x : Vector Sample 32) : (s.programOut x).toInt = saturate (s.rowSum x .program) :=
  toInt_ofInt_sample (saturate_range _)

theorem State.rampAll_ceiling (s : State) (r : ReturnId) : s.rampAll.returns[r].ceiling = s.returns[r].ceiling := by
  rw [State.rampAll]

theorem State.rampAll_monitor (s : State) : s.rampAll.monitor = s.monitor := by
  rw [State.rampAll]

theorem State.rampAll_returnOut (s : State) (slots : Vector SlotWord 32) (r : ReturnId) :
    (s.rampAll.returnOut (frameSamples slots) r).toInt = finalSample s slots r := by
  rw [State.returnOut_toInt, State.rampAll_rowSum, State.rampAll_ceiling, State.returnSample_eq_final]

theorem State.rampAll_programOut (s : State) (slots : Vector SlotWord 32) :
    (s.rampAll.programOut (frameSamples slots)).toInt = saturated (rounded s slots .program) := by
  rw [State.programOut_toInt, State.rampAll_rowSum, saturate_eq_saturated]

/-- A stage that changes the sum changes the sample: what saturation moves lies beyond every sample a ceiling can give (R125). -/
theorem State.clipFlags_eq (s : State) (slots : Vector SlotWord 32) (r : ReturnId) :
    (s.clipFlags (frameSamples slots))[r] = isClipped s slots r := by
  have hflag : (s.clipFlags (frameSamples slots))[r] = s.rampAll.clipped (frameSamples slots) r := by simp [State.clipFlags]
  have hrange := returnSample_range s.returns[r].ceiling (rounded s slots (.ret r))
  rw [State.returnSample_eq_final] at hrange
  rw [hflag, State.clipped, State.rampAll_rowSum, State.rampAll_ceiling, clippedSample, State.returnSample_eq_final, isClipped,
    ← Bool.decide_or, decide_eq_decide]
  unfold saturated
  split
  · omega
  · split <;> omega

/-! ### What the arrival leaves (R119, R126, R127) -/

theorem State.takeFrame_row (s : State) (slots : Vector SlotWord 32) (ρ : Row) (i : SourceId) :
    ((s.takeFrame slots).row ρ)[i] = (s.row ρ)[i].ramp := by
  have hcells : (s.takeFrame slots).cells = s.rampAll.cells := by
    rw [State.takeFrame_eq, State.lockSync_frame, State.heard_frame]
    rfl
  rw [← State.rampAll_cell, State.row, hcells, State.row]

theorem State.takeFrame_held (s : State) (slots : Vector SlotWord 32) (j : Fin 32) :
    (s.takeFrame slots).held[j] = (s.rampAll.outputs (frameSamples slots))[j] := by
  have hheld : (s.takeFrame slots).held = s.rampAll.outputs (frameSamples slots) := by
    rw [State.takeFrame_eq, State.lockSync_frame, State.heard_frame]
    rfl
  rw [hheld]

theorem State.outputs_return (s : State) (x : Vector Sample 32) {r : ReturnId} {j : Fin 32} (h : j.val = r.val) :
    (s.outputs x)[j] = s.returnOut x r := by
  have hlt : j.val < 24 := h ▸ r.isLt
  simp only [State.outputs, Fin.getElem_fin, Vector.getElem_ofFn, dif_pos hlt]
  exact congrArg (s.returnOut x) (Fin.ext h)

theorem State.outputs_program (s : State) (x : Vector Sample 32) : (s.outputs x)[24] = s.programOut x := by
  simp [State.outputs]

theorem State.outputs_monitor (s : State) (x : Vector Sample 32) : (s.outputs x)[25] = s.monitor.elim 0 (s.returnOut x) := by
  cases h : s.monitor with
  | none => simp [State.outputs, h]
  | some r => simp [State.outputs, h]

theorem State.outputs_spare (s : State) (x : Vector Sample 32) {j : Fin 32} (h : 26 ≤ j.val) : (s.outputs x)[j] = 0 := by
  have hret : ¬ j.val < 24 := by omega
  have hprogram : j.val ≠ 24 := by omega
  have hmonitor : j.val ≠ 25 := by omega
  simp only [State.outputs, Fin.getElem_fin, Vector.getElem_ofFn, dif_neg hret, if_neg hprogram, if_neg hmonitor]

end Sys2Proof.Machine

namespace Sys2Proof.Proofs

open Machine Claims

/-- Settles O44: the ramp cell by cell, then the held samples lane by lane. -/
theorem frameArrivalsMixTheRows : Obligations.FrameArrivalsMixTheRows := by
  refine fun s slots hr ha => ⟨s.takeFrame slots, exec_frameArrival_of slots hr ha, fun ρ i => ?_, fun ρ i => ramped_le _,
    fun r j hj => ?_, ?_, ?_, fun j hj => ?_⟩
  · rw [State.takeFrame_row, Cell.ramp_eq]
  · rw [State.takeFrame_held, State.outputs_return _ _ hj, State.rampAll_returnOut]
  · exact (congrArg _ ((s.takeFrame_held slots 24).trans (State.outputs_program _ _))).trans (s.rampAll_programOut slots)
  · refine (congrArg _ ((s.takeFrame_held slots 25).trans (State.outputs_monitor _ _))).trans ?_
    rw [State.rampAll_monitor]
    cases s.monitor with
    | none => rfl
    | some r => exact s.rampAll_returnOut slots r
  · rw [State.takeFrame_held, State.outputs_spare _ _ hj]

end Sys2Proof.Proofs
end

section
/-! ## The Level Monitor in a frame arrival

Silence detection and clip counting go over the sources and over the returns, and the end of a watch interval over the returns (R144); each
round reads and writes its own records and its own notice. -/

namespace Sys2Proof.Machine

open Claims

/-! ### A loop whose rounds do not meet -/

/-- Where a round writes its own place alone, and reads its own place alone, a loop over all places leaves at each what its round leaves. -/
theorem foldl_finRange_read {α γ : Type} {n : Nat} {read : α → Fin n → γ} {f : α → Fin n → α} (round : Fin n → γ → γ)
    (own : ∀ a i, read (f a i) i = round i (read a i)) (other : ∀ a i j, i ≠ j → read (f a i) j = read a j)
    (a : α) (i : Fin n) : read ((List.finRange n).foldl f a) i = round i (read a i) := by
  suffices h : ∀ l : List (Fin n), l.Nodup → ∀ a,
      (i ∉ l → read (l.foldl f a) i = read a i) ∧ (i ∈ l → read (l.foldl f a) i = round i (read a i)) from
    (h _ (List.nodup_finRange n) a).2 (List.mem_finRange i)
  intro l
  induction l with
  | nil => exact fun _ a => ⟨fun _ => rfl, fun h => absurd h List.not_mem_nil⟩
  | cons j l ih =>
    intro hl a
    obtain ⟨hj, hl⟩ := List.nodup_cons.mp hl
    obtain ⟨hout, hin⟩ := ih hl (f a j)
    rw [List.foldl_cons]
    refine ⟨fun hi => ?_, fun hi => ?_⟩
    · obtain ⟨hne, hi⟩ := not_or.mp (mt List.mem_cons.mpr hi)
      rw [hout hi, other a j i (Ne.symm hne)]
    · by_cases hij : i = j
      · subst hij
        exact (hout hj).trans (own a i)
      · rw [hin ((List.mem_cons.mp hi).resolve_left hij), other a j i (Ne.symm hij)]

/-! ### Pending notices -/

/-- Whether a notice of a kind is pending for an index at the kind's port (R174). -/
def State.shows (s : State) (k : NoticeKind) (j : Nat) : Bool := hasIndex (s.port k.port).notices.sets[k.bit] j

theorem State.shows_silenceChange (s : State) (j : Nat) :
    s.shows .silenceChange j = hasIndex (s.port .console).notices.sets[2] j := rfl

theorem State.shows_clipReport (s : State) (j : Nat) : s.shows .clipReport j = hasIndex (s.port .console).notices.sets[3] j := rfl

theorem State.shows_clipThreshold (s : State) (j : Nat) :
    s.shows .clipThreshold j = hasIndex (s.port .console).notices.sets[4] j := rfl

theorem State.shows_of_ports {s t : State} (h : t.ports = s.ports) (k : NoticeKind) (j : Nat) : t.shows k j = s.shows k j := by
  rw [State.shows, State.port, h]
  rfl

/-- No two kinds share a bit at one port (R172). -/
theorem NoticeKind.eq_of_place {k l : NoticeKind} (hp : k.port = l.port) (hb : k.bit = l.bit) : k = l := by
  revert k l
  rintro ⟨⟩ ⟨⟩ <;> decide

/-- A raise shows its own notice and leaves every other as it was (R174). -/
theorem State.raise_shows (s : State) (k l : NoticeKind) {i : Nat} (hi : i < 32) (j : Nat) :
    (s.raise k i).shows l j = (s.shows l j || decide (k = l ∧ i = j)) := by
  unfold State.shows
  rw [State.raise_port]
  split
  · next hp =>
    unfold PortState.noted
    by_cases hb : k.bit = l.bit
    · obtain rfl := NoticeKind.eq_of_place hp hb
      simp [hasIndex, addIndex, BitVec.getLsbD_twoPow, hi]
    · have hv : k.bit.val ≠ l.bit.val := fun hv => hb (Fin.ext hv)
      have hkl : k ≠ l := fun h => hb (h ▸ rfl)
      simp [hkl, Vector.getElem_set_ne _ _ hv]
  · next hp =>
    have hkl : k ≠ l := fun h => hp (h ▸ rfl)
    simp [hkl]

theorem State.lockSync_shows (s : State) (k : NoticeKind) (j : Nat) : s.lockSync.shows k j = s.shows k j := by
  simp only [State.shows, State.lockSync_port]

/-! ### Silence detection (R144 step 1, R145 to R148) -/

/-- A source record after the Level Monitor has heard a sample. -/
def Source.heard (x : Source) (limit threshold : Nat) (y : Sample) : Source :=
  if x.kind.hasStage then x.hear limit (loud threshold y) else x

/-- Whether SILENCE CHANGE is raised for a source at a sample (R148). -/
def Source.reportsHeard (x : Source) (limit threshold : Nat) (y : Sample) : Bool :=
  decide ((x.heard limit threshold y).silent ≠ x.silent) && x.stage.reportsSilence

section Hearing

variable (s : State) (x : Vector Sample 32) (i : SourceId)

/-- The Level Monitor at one source, of whatever kind: the record written, and SILENCE CHANGE where it is due. -/
theorem State.hearSource_eq : s.hearSource x i =
    let t := s.setSource i (s.sources[i].heard s.silenceLimit s.silenceThreshold x[i])
    if s.sources[i].reportsHeard s.silenceLimit s.silenceThreshold x[i] then t.raise .silenceChange i.val else t := by
  have hself : s.setSource i s.sources[i] = s := by simp [State.setSource]
  by_cases hk : s.sources[i].kind.hasStage = true
  · simp only [State.hearSource, Source.reportsHeard, Source.heard, if_pos hk, Bool.and_eq_true, decide_eq_true_eq]
  · simp only [State.hearSource, Source.reportsHeard, Source.heard, if_neg hk, ne_eq, not_true_eq_false, decide_false,
      Bool.false_and, Bool.false_eq_true, if_false, hself]

theorem State.hearSource_sources (j : SourceId) : (s.hearSource x i).sources[j] =
    if i = j then s.sources[i].heard s.silenceLimit s.silenceThreshold x[i] else s.sources[j] := by
  rw [State.hearSource_eq, ← State.setSource_read]
  dsimp only
  split <;> rfl

theorem State.hearSource_shows (k : NoticeKind) (j : Nat) : (s.hearSource x i).shows k j = (s.shows k j ||
    (decide (.silenceChange = k ∧ i.val = j) && s.sources[i].reportsHeard s.silenceLimit s.silenceThreshold x[i])) := by
  have hset : ∀ y, (s.setSource i y).shows k j = s.shows k j := fun _ => State.shows_of_ports rfl k j
  rw [State.hearSource_eq]
  dsimp only
  split
  · next h => rw [State.raise_shows _ _ _ i.isLt, hset, h, Bool.and_true]
  · next h => rw [hset, Bool.eq_false_iff.mpr h, Bool.and_false, Bool.or_false]

end Hearing

/-- What silence detection reads and writes at one source: its two settings, the record, and the pending notice. -/
structure Ear where
  limit : Nat
  threshold : Nat
  source : Source
  shown : Bool

def State.ear (s : State) (i : SourceId) : Ear :=
  { limit := s.silenceLimit, threshold := s.silenceThreshold, source := s.sources[i], shown := s.shows .silenceChange i.val }

theorem State.ear_source (s : State) (i : SourceId) : (s.ear i).source = s.sources[i] := rfl

theorem State.ear_shown (s : State) (i : SourceId) : (s.ear i).shown = s.shows .silenceChange i.val := rfl

/-- One round of silence detection (R144 to R148). -/
def Ear.hear (e : Ear) (y : Sample) : Ear :=
  { e with
    source := e.source.heard e.limit e.threshold y
    shown := e.shown || e.source.reportsHeard e.limit e.threshold y }

theorem State.hearSource_ear (s : State) (x : Vector Sample 32) (i j : SourceId) :
    (s.hearSource x i).ear j = if i = j then (s.ear j).hear x[j] else s.ear j := by
  have hlimit : (s.hearSource x i).silenceLimit = s.silenceLimit := by
    rw [State.silenceLimit, State.hearSource_frame]
    rfl
  have hthreshold : (s.hearSource x i).silenceThreshold = s.silenceThreshold := by rw [State.hearSource_frame]
  rw [State.ear, hlimit, hthreshold, State.hearSource_sources, State.hearSource_shows]
  split
  · next h =>
    subst h
    simp [State.ear, Ear.hear]
  · next h => simp [State.ear, Fin.val_inj, h]

theorem State.hearAll_ear (s : State) (x : Vector Sample 32) (i : SourceId) : (s.hearAll x).ear i = (s.ear i).hear x[i] :=
  foldl_finRange_read (read := State.ear) (fun i e => e.hear x[i]) (fun a i => by rw [State.hearSource_ear, if_pos rfl])
    (fun a i j h => by rw [State.hearSource_ear, if_neg h]) s i

theorem State.hearAll_sources (s : State) (x : Vector Sample 32) (i : SourceId) :
    (s.hearAll x).sources[i] = s.sources[i].heard s.silenceLimit s.silenceThreshold x[i] := by
  rw [← State.ear_source, State.hearAll_ear, Ear.hear, State.ear]

theorem State.hearAll_shows (s : State) (x : Vector Sample 32) (i : SourceId) : (s.hearAll x).shows .silenceChange i.val =
    (s.shows .silenceChange i.val || s.sources[i].reportsHeard s.silenceLimit s.silenceThreshold x[i]) := by
  rw [← State.ear_shown, State.hearAll_ear, Ear.hear, State.ear]

theorem State.hearAll_shows_other (s : State) (x : Vector Sample 32) {k : NoticeKind} (hk : .silenceChange ≠ k) (j : Nat) :
    (s.hearAll x).shows k j = s.shows k j :=
  foldl_keeps (fun t => t.shows k j = s.shows k j) _ (fun t i ht => by simp [State.hearSource_shows, hk, ht]) (List.finRange 32) s rfl

theorem State.hearAll_frame (s : State) (x : Vector Sample 32) :
    s.hearAll x = { s with sources := (s.hearAll x).sources, ports := (s.hearAll x).ports } :=
  foldl_keeps (fun t : State => t = { s with sources := t.sources, ports := t.ports }) _
    (fun t i (ht : t = _) => by rw [t.hearSource_frame x i, ht]) (List.finRange 32) s rfl

/-! ### Clip counting (R144 step 2, R150, R151) -/

/-- A return's clip accumulator with one more clipped sample (R150). -/
def Clip.countUp (c : Clip) : Nat := if c.count < Config.maxClips then c.count + 1 else c.count

/-- Whether one more clipped sample passes the clip threshold for the first time in the interval (R151). -/
def Clip.passes (c : Clip) (threshold : Nat) : Bool := decide (threshold < c.countUp) && !c.overThreshold

/-- A clip record after a clipped sample (R150, R151). -/
def Clip.hit (c : Clip) (threshold : Nat) : Clip :=
  { c with count := c.countUp, overThreshold := c.overThreshold || c.passes threshold }

section Clipping

variable (s : State) (r : ReturnId)

/-- A clipped sample at one return: the record written, and CLIP THRESHOLD where it is due. -/
theorem State.countClip_eq : s.countClip r =
    let t := s.setClip r (s.clips[r].hit s.clipThreshold)
    if s.clips[r].passes s.clipThreshold then t.raise .clipThreshold r.val else t := by
  have hpasses : s.clips[r].passes s.clipThreshold = true ↔
      s.clipThreshold < s.clips[r].countUp ∧ ¬ s.clips[r].overThreshold = true := by
    simp [Clip.passes]
  dsimp only
  by_cases h : s.clips[r].passes s.clipThreshold = true
  · rw [Clip.hit, if_pos h, h, Bool.or_true]
    exact if_pos (hpasses.mp h)
  · rw [Clip.hit, if_neg h, Bool.eq_false_iff.mpr h, Bool.or_false]
    exact if_neg (mt hpasses.mpr h)

theorem State.countClip_clips (q : ReturnId) :
    (s.countClip r).clips[q] = if r = q then s.clips[r].hit s.clipThreshold else s.clips[q] := by
  rw [State.countClip_eq, ← State.setClip_read]
  dsimp only
  split <;> rfl

theorem State.countClip_shows (k : NoticeKind) (j : Nat) : (s.countClip r).shows k j =
    (s.shows k j || (decide (.clipThreshold = k ∧ r.val = j) && s.clips[r].passes s.clipThreshold)) := by
  have hset : ∀ c, (s.setClip r c).shows k j = s.shows k j := fun _ => State.shows_of_ports rfl k j
  rw [State.countClip_eq]
  dsimp only
  split
  · next h => rw [State.raise_shows _ _ _ (r.isLt.trans (by decide)), hset, h, Bool.and_true]
  · next h => rw [hset, Bool.eq_false_iff.mpr h, Bool.and_false, Bool.or_false]

end Clipping

/-- What clip counting reads and writes at one return: the threshold, the record, and the pending notice. -/
structure ClipMeter where
  threshold : Nat
  clip : Clip
  shown : Bool

def State.clipMeter (s : State) (r : ReturnId) : ClipMeter :=
  { threshold := s.clipThreshold, clip := s.clips[r], shown := s.shows .clipThreshold r.val }

theorem State.clipMeter_clip (s : State) (r : ReturnId) : (s.clipMeter r).clip = s.clips[r] := rfl

theorem State.clipMeter_shown (s : State) (r : ReturnId) : (s.clipMeter r).shown = s.shows .clipThreshold r.val := rfl

/-- One round of clip counting (R150, R151). -/
def ClipMeter.count (m : ClipMeter) (clipped : Bool) : ClipMeter :=
  { m with
    clip := if clipped then m.clip.hit m.threshold else m.clip
    shown := m.shown || (clipped && m.clip.passes m.threshold) }

theorem State.countClip_clipMeter (s : State) (r q : ReturnId) :
    (s.countClip r).clipMeter q = if r = q then (s.clipMeter q).count true else s.clipMeter q := by
  have hthreshold : (s.countClip r).clipThreshold = s.clipThreshold := by rw [State.countClip_frame]
  rw [State.clipMeter, hthreshold, State.countClip_clips, State.countClip_shows]
  split
  · next h =>
    subst h
    simp [State.clipMeter, ClipMeter.count]
  · next h => simp [State.clipMeter, Fin.val_inj, h]

theorem ClipMeter.count_false (m : ClipMeter) : m.count false = m := by simp [ClipMeter.count]

theorem State.countClips_clipMeter (s : State) (flags : Vector Bool 24) (r : ReturnId) :
    (s.countClips flags).clipMeter r = (s.clipMeter r).count flags[r] := by
  refine foldl_finRange_read (read := State.clipMeter) (fun r m => m.count flags[r]) (fun a i => ?_) (fun a i j h => ?_) s r
  · cases hf : flags[i]
    · exact (ClipMeter.count_false _).symm
    · exact (a.countClip_clipMeter i i).trans (if_pos rfl)
  · cases flags[i]
    · rfl
    · exact (a.countClip_clipMeter i j).trans (if_neg h)

theorem State.countClips_shows_other (s : State) (flags : Vector Bool 24) {k : NoticeKind} (hk : .clipThreshold ≠ k) (j : Nat) :
    (s.countClips flags).shows k j = s.shows k j :=
  foldl_keeps (fun t => t.shows k j = s.shows k j) _
    (fun t r ht => by
      split
      · simp [State.countClip_shows, hk, ht]
      · exact ht)
    (List.finRange 24) s rfl

theorem State.countClips_frame (s : State) (flags : Vector Bool 24) :
    s.countClips flags = { s with clips := (s.countClips flags).clips, ports := (s.countClips flags).ports } :=
  foldl_keeps (fun t : State => t = { s with clips := t.clips, ports := t.ports }) _
    (fun t r (ht : t = _) => by
      split
      · rw [t.countClip_frame r, ht]
      · exact ht)
    (List.finRange 24) s rfl

/-! ### The watch interval (R144 step 3, R152 to R154) -/

theorem State.raise_clipReport_shows (s t : State) (i : ReturnId) (k : NoticeKind) (j : Nat) :
    (if s.reportsClip i then t.raise .clipReport i.val else t).shows k j =
      (t.shows k j || (decide (.clipReport = k ∧ i.val = j) && s.reportsClip i)) := by
  split
  · next h => rw [State.raise_shows _ _ _ (i.isLt.trans (by decide)), h, Bool.and_true]
  · next h => rw [Bool.eq_false_iff.mpr h, Bool.and_false, Bool.or_false]

theorem State.reportClips_shows (s : State) (r : ReturnId) :
    s.reportClips.shows .clipReport r.val = (s.shows .clipReport r.val || s.reportsClip r) :=
  foldl_finRange_read (read := fun (t : State) (r : ReturnId) => t.shows .clipReport r.val) (fun r shown => shown || s.reportsClip r)
    (fun a i => by simp [State.raise_clipReport_shows]) (fun a i j h => by simp [State.raise_clipReport_shows, Fin.val_inj, h]) s r

theorem State.reportClips_shows_other (s : State) {k : NoticeKind} (hk : .clipReport ≠ k) (j : Nat) :
    s.reportClips.shows k j = s.shows k j :=
  foldl_keeps (fun t => t.shows k j = s.shows k j) _ (fun t r ht => by simp [State.raise_clipReport_shows, hk, ht])
    (List.finRange 24) s rfl

theorem State.closeInterval_shows (s : State) (k : NoticeKind) (j : Nat) : s.closeInterval.shows k j = s.reportClips.shows k j :=
  State.shows_of_ports (by rw [State.closeInterval_eq]) k j

/-- The end of a watch interval (R152 to R154). -/
theorem State.closeInterval_records (s : State) : (∀ r : ReturnId, s.closeInterval.clips[r] = s.clips[r].capture) ∧
    s.closeInterval.watchRemaining = 12000 * 2 ^ s.watchCode ∧ s.closeInterval.lossMark = false := by
  rw [State.closeInterval_eq]
  exact ⟨fun r => by simp, rfl, rfl⟩

theorem State.watchTick_expires {s : State} (h : s.watchRemaining ≤ 1) : s.watchTick = s.closeInterval := if_pos h

theorem State.watchTick_runs {s : State} (h : ¬ s.watchRemaining ≤ 1) :
    s.watchTick = { s with watchRemaining := s.watchRemaining - 1 } := if_neg h

theorem State.watchTick_sources (s : State) (i : SourceId) : s.watchTick.sources[i] = s.sources[i] := by
  unfold State.watchTick
  split
  · rw [State.closeInterval_frame]
  · rfl

/-- A frame within the watch interval is counted, and nothing captured (R152). -/
theorem State.watchTick_counts {s : State} (h : ¬ s.watchRemaining ≤ 1) : (∀ r : ReturnId, s.watchTick.clips[r] = s.clips[r]) ∧
    s.watchTick.watchRemaining = s.watchRemaining - 1 ∧ s.watchTick.lossMark = s.lossMark ∧
    ∀ k j, s.watchTick.shows k j = s.shows k j := by
  rw [State.watchTick_runs h]
  exact ⟨fun _ => rfl, rfl, rfl, State.shows_of_ports rfl⟩

theorem State.watchTick_shows_other (s : State) {k : NoticeKind} (hk : .clipReport ≠ k) (j : Nat) :
    s.watchTick.shows k j = s.shows k j := by
  unfold State.watchTick
  split
  · rw [State.closeInterval_shows, State.reportClips_shows_other s hk]
  · exact State.shows_of_ports rfl k j

/-! ### The Level Monitor from the tables before the frame -/

theorem quietCount_eq (limit count : Nat) : quietCount limit count = min limit (count + 1) := by
  unfold quietCount
  split <;> omega

theorem Stage.reportsSilence_eq (g : Stage) : g.reportsSilence = decide (g = .hold ∨ g = .ready ∨ g = .air) := by
  cases g <;> rfl

theorem State.loud_eq_isLoud (s : State) (slots : Vector SlotWord 32) (i : SourceId) :
    loud s.silenceThreshold (frameSamples slots)[i] = isLoud s slots i := by
  rw [loud, frameSamples_toInt, isLoud]

/-- A source record with its guard counted down (R20). -/
def Source.tick (x : Source) : Source := { x with guard := x.guard.map fun n => n - 1 }

theorem State.mixed_sources (s : State) (slots : Vector SlotWord 32) (i : SourceId) :
    (s.mixed slots).sources[i] = s.sources[i].tick := by
  have hmix : ∀ x, (s.endFrame.mix x).sources = s.sources := fun x => by
    rw [State.mix_frame]
    rfl
  simp [State.mixed, State.tickHolds, State.tickGuards, hmix, Source.tick]

theorem State.mixed_silence (s : State) (slots : Vector SlotWord 32) :
    (s.mixed slots).silenceLimit = s.silenceLimit ∧ (s.mixed slots).silenceThreshold = s.silenceThreshold := by
  rw [State.silenceLimit, State.mixed_frame]
  exact ⟨rfl, rfl⟩

/-- What the Level Monitor makes of a source in a frame arrival (R20, R145 to R147). -/
def State.frameSource (s : State) (slots : Vector SlotWord 32) (i : SourceId) : Source :=
  (s.sources[i].tick).heard s.silenceLimit s.silenceThreshold (frameSamples slots)[i]

theorem State.frameSource_remote {s : State} {i : SourceId} (h : Remote s.sources[i]) (slots : Vector SlotWord 32) :
    s.frameSource slots i =
      { s.sources[i].tick with silenceCount := heardCount s slots i, silent := heardSilent s slots i } := by
  have hkind : s.sources[i].tick.kind.hasStage = true := (Kind.hasStage_iff _).mpr h
  rw [State.frameSource, Source.heard, if_pos hkind, State.loud_eq_isLoud, Source.hear, heardSilent, heardCount, State.silenceLimit,
    quietCount_eq, beq_eq_decide]
  cases isLoud s slots i
  · simp only [Bool.false_eq_true, if_false]
    rfl
  · simp only [if_true]

theorem State.frameSource_other {s : State} {i : SourceId} (h : ¬ Remote s.sources[i]) (slots : Vector SlotWord 32) :
    s.frameSource slots i = s.sources[i].tick :=
  if_neg (mt (Kind.hasStage_iff _).mp h)

/-- SILENCE CHANGE in a frame arrival: a caller or codec whose status changes in HOLD, READY or AIR (R148). -/
theorem State.frameSource_reports (s : State) (slots : Vector SlotWord 32) (i : SourceId) :
    s.sources[i].tick.reportsHeard s.silenceLimit s.silenceThreshold (frameSamples slots)[i] =
      (decide (Remote s.sources[i] ∧ heardSilent s slots i ≠ s.sources[i].silent) &&
        decide (s.sources[i].stage = .hold ∨ s.sources[i].stage = .ready ∨ s.sources[i].stage = .air)) := by
  have hreports : s.sources[i].tick.reportsHeard s.silenceLimit s.silenceThreshold (frameSamples slots)[i] =
      (decide ((s.frameSource slots i).silent ≠ s.sources[i].silent) && s.sources[i].stage.reportsSilence) := rfl
  rw [hreports, Stage.reportsSilence_eq]
  by_cases h : Remote s.sources[i]
  · rw [State.frameSource_remote h]
    simp only [h, true_and]
  · rw [State.frameSource_other h]
    simp only [h, false_and, Source.tick, ne_eq, not_true_eq_false]

/-- The tables after the first two steps of the Level Monitor in a frame arrival (R144). -/
def State.metered (s : State) (slots : Vector SlotWord 32) : State :=
  ((s.mixed slots).hearAll (frameSamples slots)).countClips (s.clipFlags (frameSamples slots))

theorem State.takeFrame_metered (s : State) (slots : Vector SlotWord 32) : s.takeFrame slots = (s.metered slots).watchTick.lockSync := rfl

theorem State.metered_frame (s : State) (slots : Vector SlotWord 32) : s.metered slots = { s.mixed slots with
    sources := (s.metered slots).sources, clips := (s.metered slots).clips, ports := (s.metered slots).ports } :=
  (State.hearAll_scope _ _).trans (State.countClips_scope _ _)

theorem State.metered_sources (s : State) (slots : Vector SlotWord 32) (i : SourceId) :
    (s.metered slots).sources[i] = s.frameSource slots i := by
  obtain ⟨hlimit, hthreshold⟩ := s.mixed_silence slots
  have hclips : (s.metered slots).sources = ((s.mixed slots).hearAll (frameSamples slots)).sources := by
    rw [State.metered, State.countClips_frame]
  rw [State.frameSource, ← State.mixed_sources, ← hlimit, ← hthreshold, ← State.hearAll_sources]
  simp only [hclips]

theorem State.mixed_shows (s : State) (slots : Vector SlotWord 32) (k : NoticeKind) (j : Nat) :
    (s.mixed slots).shows k j = s.shows k j := State.shows_of_ports (by rw [State.mixed_frame]) k j

theorem State.metered_shows_silenceChange (s : State) (slots : Vector SlotWord 32) (i : SourceId) :
    (s.metered slots).shows .silenceChange i.val = (s.shows .silenceChange i.val ||
      s.sources[i].tick.reportsHeard s.silenceLimit s.silenceThreshold (frameSamples slots)[i]) := by
  obtain ⟨hlimit, hthreshold⟩ := s.mixed_silence slots
  rw [State.metered, State.countClips_shows_other _ _ (by decide), State.hearAll_shows, State.mixed_shows, State.mixed_sources, hlimit,
    hthreshold]

/-- What clip counting reads in a frame arrival is as before it. -/
theorem State.hearing_clipMeter (s : State) (slots : Vector SlotWord 32) (r : ReturnId) :
    ((s.mixed slots).hearAll (frameSamples slots)).clipMeter r = s.clipMeter r := by
  have hframe : ((s.mixed slots).hearAll (frameSamples slots)).clipThreshold = s.clipThreshold ∧
      ((s.mixed slots).hearAll (frameSamples slots)).clips = s.clips := by
    rw [State.hearAll_frame, State.mixed_frame]
    exact ⟨rfl, rfl⟩
  obtain ⟨hthreshold, hclips⟩ := hframe
  rw [State.clipMeter, State.hearAll_shows_other _ _ (by decide), State.mixed_shows, hthreshold]
  simp only [hclips]
  rfl

theorem State.metered_clipMeter (s : State) (slots : Vector SlotWord 32) (r : ReturnId) :
    (s.metered slots).clipMeter r = (s.clipMeter r).count (isClipped s slots r) := by
  rw [State.metered, State.countClips_clipMeter, State.hearing_clipMeter, State.clipFlags_eq]

/-- A clip accumulator in a frame arrival (R150). -/
theorem clipCount_eq (s : State) (slots : Vector SlotWord 32) (r : ReturnId) :
    clipCount s slots r = if isClipped s slots r then s.clips[r].countUp else s.clips[r].count := rfl

theorem passesThreshold_eq (s : State) (slots : Vector SlotWord 32) (r : ReturnId) :
    passesThreshold s slots r = (isClipped s slots r && s.clips[r].passes s.clipThreshold) := by
  rw [passesThreshold, clipCount_eq]
  cases isClipped s slots r <;> rfl

/-- The clip records before the watch interval is counted (R150, R151). -/
theorem State.metered_clips (s : State) (slots : Vector SlotWord 32) (r : ReturnId) : (s.metered slots).clips[r] =
    { s.clips[r] with
      count := clipCount s slots r, overThreshold := s.clips[r].overThreshold || passesThreshold s slots r } := by
  rw [← State.clipMeter_clip, State.metered_clipMeter, clipCount_eq, passesThreshold_eq]
  cases isClipped s slots r
  · simp [ClipMeter.count, State.clipMeter]
  · rfl

theorem State.metered_shows_clipThreshold (s : State) (slots : Vector SlotWord 32) (r : ReturnId) :
    (s.metered slots).shows .clipThreshold r.val = (s.shows .clipThreshold r.val || passesThreshold s slots r) := by
  rw [passesThreshold_eq, ← State.clipMeter_shown, State.metered_clipMeter, ClipMeter.count, State.clipMeter]

theorem State.metered_shows_clipReport (s : State) (slots : Vector SlotWord 32) (j : Nat) :
    (s.metered slots).shows .clipReport j = s.shows .clipReport j := by
  rw [State.metered, State.countClips_shows_other _ _ (by decide), State.hearAll_shows_other _ _ (by decide), State.mixed_shows]

theorem State.metered_watch (s : State) (slots : Vector SlotWord 32) :
    (s.metered slots).watchRemaining = s.watchRemaining ∧ (s.metered slots).watchCode = s.watchCode ∧
      (s.metered slots).lossMark = s.lossMark := by
  rw [State.metered_frame, State.mixed_frame]
  exact ⟨rfl, rfl, rfl⟩

/-! ### What a frame arrival leaves of the sources and the clip records -/

section Locking

variable (s : State)

theorem State.lockSync_sources (i : SourceId) : s.lockSync.sources[i] = s.sources[i] := by
  simp only [State.lockSync_frame s]

theorem State.lockSync_clips (r : ReturnId) : s.lockSync.clips[r] = s.clips[r] := by
  simp only [State.lockSync_frame s]

theorem State.lockSync_watch : s.lockSync.watchRemaining = s.watchRemaining ∧ s.lockSync.lossMark = s.lossMark := by
  rw [State.lockSync_frame]
  exact ⟨rfl, rfl⟩

end Locking

theorem State.takeFrame_sources (s : State) (slots : Vector SlotWord 32) (i : SourceId) :
    (s.takeFrame slots).sources[i] = s.frameSource slots i := by
  rw [State.takeFrame_metered, State.lockSync_sources, State.watchTick_sources, State.metered_sources]

theorem State.takeFrame_shows_silenceChange (s : State) (slots : Vector SlotWord 32) (i : SourceId) :
    (s.takeFrame slots).shows .silenceChange i.val = (s.shows .silenceChange i.val ||
      s.sources[i].tick.reportsHeard s.silenceLimit s.silenceThreshold (frameSamples slots)[i]) := by
  rw [State.takeFrame_metered, State.lockSync_shows, State.watchTick_shows_other _ (by decide), State.metered_shows_silenceChange]

theorem State.takeFrame_shows_clipThreshold (s : State) (slots : Vector SlotWord 32) (r : ReturnId) :
    (s.takeFrame slots).shows .clipThreshold r.val = (s.shows .clipThreshold r.val || passesThreshold s slots r) := by
  rw [State.takeFrame_metered, State.lockSync_shows, State.watchTick_shows_other _ (by decide), State.metered_shows_clipThreshold]

/-- A frame arrival within a watch interval on what the interval keeps (R150 to R152). -/
theorem State.takeFrame_counts {s : State} (h : ¬ s.watchRemaining ≤ 1) (slots : Vector SlotWord 32) :
    (∀ r : ReturnId, (s.takeFrame slots).clips[r] = (s.metered slots).clips[r]) ∧
      (s.takeFrame slots).watchRemaining = s.watchRemaining - 1 ∧ (s.takeFrame slots).lossMark = s.lossMark ∧
      ∀ j, (s.takeFrame slots).shows .clipReport j = s.shows .clipReport j := by
  obtain ⟨hremaining, _, hloss⟩ := s.metered_watch slots
  obtain ⟨hclips, htick, hmark, hshows⟩ := State.watchTick_counts (s := s.metered slots) (hremaining.symm ▸ h)
  obtain ⟨hlockR, hlockL⟩ := (s.metered slots).watchTick.lockSync_watch
  rw [State.takeFrame_metered, hlockR, hlockL, htick, hmark, hremaining, hloss]
  refine ⟨fun r => ?_, rfl, rfl, fun j => ?_⟩
  · rw [State.lockSync_clips, hclips]
  · rw [State.lockSync_shows, hshows, State.metered_shows_clipReport]

/-- The frame arrival at which a watch interval ends (R152 to R154). -/
theorem State.takeFrame_captures {s : State} (h : s.watchRemaining ≤ 1) (slots : Vector SlotWord 32) :
    (∀ r : ReturnId, (s.takeFrame slots).clips[r] = (s.metered slots).clips[r].capture) ∧
      (s.takeFrame slots).watchRemaining = 12000 * 2 ^ s.watchCode ∧ (s.takeFrame slots).lossMark = false ∧
      ∀ r : ReturnId, (s.takeFrame slots).shows .clipReport r.val =
        (s.shows .clipReport r.val || (s.metered slots).reportsClip r) := by
  obtain ⟨hremaining, hcode, _⟩ := s.metered_watch slots
  obtain ⟨hcapture, hrestart, hclear⟩ := (s.metered slots).closeInterval_records
  obtain ⟨hlockR, hlockL⟩ := (s.metered slots).closeInterval.lockSync_watch
  rw [State.takeFrame_metered, State.watchTick_expires (hremaining.symm ▸ h), hlockR, hlockL, hrestart, hclear, hcode]
  refine ⟨fun r => ?_, rfl, rfl, fun r => ?_⟩
  · rw [State.lockSync_clips, hcapture]
  · rw [State.lockSync_shows, State.closeInterval_shows, State.reportClips_shows, State.metered_shows_clipReport]

/-- CLIP REPORT at the end of a watch interval (R153 step 5, R154). -/
theorem State.metered_reportsClip (s : State) (slots : Vector SlotWord 32) (r : ReturnId) : (s.metered slots).reportsClip r =
    (decide (s.clips[r].captured = 0 ∧ clipCount s slots r ≠ 0) && !s.lossMark) := by
  obtain ⟨_, _, hloss⟩ := s.metered_watch slots
  rw [State.reportsClip, hloss, State.metered_clips]
  simp [bne, beq_eq_decide]

/-! ### The expiries (R146, R153) -/

/-- A source falls SILENT in a frame arrival where it is a caller or codec that was clear and stands at the limit now (R146). -/
theorem State.fallsSilent_iff (s : State) (slots : Vector SlotWord 32) (i : SourceId) :
    s.fallsSilent i slots = true ↔ Remote s.sources[i] ∧ s.sources[i].silent = false ∧ heardSilent s slots i = true := by
  rw [State.fallsSilent, State.takeFrame_sources]
  by_cases h : Remote s.sources[i]
  · rw [State.frameSource_remote h]
    simp only [Bool.and_eq_true, Bool.not_eq_true', h, true_and]
  · rw [State.frameSource_other h]
    simp only [Bool.and_eq_true, Bool.not_eq_true', h, false_and, iff_false]
    rintro ⟨hclear, hsilent⟩
    exact Bool.noConfusion (hclear.symm.trans hsilent)

theorem heardCount_of_falls {s : State} {slots : Vector SlotWord 32} {i : SourceId} (hclear : s.sources[i].silent = false)
    (hsilent : heardSilent s slots i = true) : heardCount s slots i = s.silenceTime * 48000 := by
  unfold heardSilent at hsilent
  split at hsilent
  · cases hsilent
  · rwa [hclear, Bool.false_or, decide_eq_true_eq] at hsilent

/-- An event out of reset whose condition fails. -/
theorem State.whenever_not {s : State} {condition : Bool} (event : State) (h : ¬ condition = true) :
    s.whenever condition event = .next s := by
  rw [Bool.eq_false_iff.mpr h, State.whenever_false]

end Sys2Proof.Machine

namespace Sys2Proof.Proofs

open Machine Claims

/-- Settles O45: the records by `takeFrame_sources`, the notice by `frameSource_reports`. -/
theorem frameArrivalsCountSilenceAndGuards : Obligations.FrameArrivalsCountSilenceAndGuards := by
  refine fun s slots hr ha => ⟨s.takeFrame slots, exec_frameArrival_of slots hr ha, fun i => ⟨fun h => ?_, fun h => ?_⟩, fun i => ?_⟩
  · rw [State.takeFrame_sources, State.frameSource_remote h]
    rfl
  · rw [State.takeFrame_sources, State.frameSource_other h]
    rfl
  · rw [← State.frameSource_reports, ← State.shows_silenceChange, ← State.shows_silenceChange, State.takeFrame_shows_silenceChange]

/-- Settles O46: a frame within the interval, and the frame that ends it. -/
theorem frameArrivalsCountClipsAndTheInterval : Obligations.FrameArrivalsCountClipsAndTheInterval := by
  intro s slots hr ha hpos expires
  refine ⟨s.takeFrame slots, exec_frameArrival_of slots hr ha, ?_⟩
  have hthreshold : ∀ r : ReturnId, hasIndex ((s.takeFrame slots).port .console).notices.sets[4] r.val =
      (hasIndex (s.port .console).notices.sets[4] r.val || passesThreshold s slots r) := fun r => by
    rw [← State.shows_clipThreshold, ← State.shows_clipThreshold, State.takeFrame_shows_clipThreshold]
  by_cases hend : s.watchRemaining = 1
  · have hexp : expires = true := decide_eq_true hend
    obtain ⟨hclips, hremaining, hloss, hreport⟩ := State.takeFrame_captures hend.le slots
    rw [hexp]
    refine ⟨fun r => ?_, hremaining, hloss, fun r => ⟨hthreshold r, ?_⟩⟩
    · rw [hclips, State.metered_clips]
      rfl
    · rw [Bool.true_and, ← State.metered_reportsClip, ← State.shows_clipReport, ← State.shows_clipReport, hreport]
  · have hexp : expires = false := decide_eq_false hend
    obtain ⟨hclips, hremaining, hloss, hreport⟩ := State.takeFrame_counts (s := s) (by omega) slots
    rw [hexp]
    refine ⟨fun r => ?_, hremaining, hloss, fun r => ⟨hthreshold r, ?_⟩⟩
    · rw [hclips, State.metered_clips]
      rfl
    · rw [Bool.false_and, Bool.false_and, Bool.or_false, ← State.shows_clipReport, ← State.shows_clipReport, hreport]

/-- Settles O48: each row is the arrival exactly where its condition holds, and the condition says what the arrival leaves. -/
theorem silenceAndWatchExpiriesAreFrameArrivals : Obligations.SilenceAndWatchExpiriesAreFrameArrivals := by
  refine fun s slots hr => ⟨fun i => ?_, fun ha hend => ?_, fun h => ?_⟩
  · intro falls
    have hcond : (s.assembly.collects && s.fallsSilent i slots) = true ↔ falls := by
      rw [Bool.and_eq_true, Assembly.collects_iff, State.fallsSilent_iff]
    refine ⟨fun h => ?_, fun h => State.whenever_not _ (mt hcond.mp h)⟩
    obtain ⟨ha, hremote, hclear, hsilent⟩ := h
    have hsource := (s.takeFrame_sources slots i).trans (State.frameSource_remote hremote slots)
    refine ⟨s.takeFrame slots, ?_, exec_frameArrival_of slots hr ha, ?_, ?_⟩
    · show s.whenever _ _ = _
      rw [hcond.mpr ⟨ha, hremote, hclear, hsilent⟩, State.whenever_of _ hr]
    · rw [hsource, hsilent]
    · rw [hsource, heardCount_of_falls hclear hsilent]
  · have hcond : (s.assembly.collects && decide (s.watchRemaining ≤ 1)) = true := by simp [ha, hend]
    obtain ⟨hclips, hremaining, _⟩ := State.takeFrame_captures hend.le slots
    refine ⟨s.takeFrame slots, ?_, exec_frameArrival_of slots hr ha, hremaining, fun r => ?_⟩
    · show s.whenever _ _ = _
      rw [hcond, State.whenever_of _ hr]
    · rw [hclips]
      rfl
  · refine State.whenever_not _ fun hcond => ?_
    rw [Bool.and_eq_true, Assembly.collects_iff, decide_eq_true_eq] at hcond
    obtain ⟨ha, hlast⟩ := hcond
    exact h.elim ha fun hlate => absurd hlast (not_le.mpr hlate)

end Sys2Proof.Proofs
end

section
/-! ## The checks of a port

One equation for each way a frame can go through the checks (R164), and the owners of the codes (R165). -/

namespace Sys2Proof.Machine

/-! ### The owners of the codes -/

/-- The codes of no command (R165). -/
theorem codeOwner_eq_none {c : Byte} : codeOwner c = none ↔
    ¬ ((0x01 ≤ c.toNat ∧ c.toNat ≤ 0x09) ∨ (0x20 ≤ c.toNat ∧ c.toNat ≤ 0x2C) ∨ (0x30 ≤ c.toNat ∧ c.toNat ≤ 0x38) ∨
      (0x40 ≤ c.toNat ∧ c.toNat ≤ 0x48)) := by
  unfold codeOwner
  dsimp only
  split_ifs <;> simp <;> omega

/-- The codes that a port takes (R165). -/
theorem codeOwner_admits {p : Port} {c : Byte} : (∃ o, codeOwner c = some o ∧ o.admits p = true) ↔
    (0x01 ≤ c.toNat ∧ c.toNat ≤ 0x09) ∨ (p = .console ∧ 0x20 ≤ c.toNat ∧ c.toNat ≤ 0x2C) ∨
      (p = .screener ∧ 0x30 ≤ c.toNat ∧ c.toNat ≤ 0x38) ∨ (p = .talkback ∧ 0x40 ≤ c.toNat ∧ c.toNat ≤ 0x48) := by
  unfold codeOwner
  dsimp only
  cases p <;> split_ifs <;> simp [Owner.admits] <;> omega

/-! ### The checks in order -/

section Checks

variable {p : Port} {c n : Byte} {ps : List Byte}

theorem portCheck_of_misformed (h : 250 < n.toNat ∨ ps.length ≠ n.toNat) : portCheck p (c :: n :: ps) = .failed c .length :=
  if_pos h

/-- A frame that says its own length, of at most 250 parameters, goes on to the check of its code (R164). -/
theorem not_misformed (hn : n.toNat ≤ 250) (hl : ps.length = n.toNat) : ¬ (n.toNat > Config.maxParams ∨ ps.length ≠ n.toNat) :=
  not_or.mpr ⟨Nat.not_lt.mpr hn, not_not.mpr hl⟩

theorem portCheck_of_unknown (hn : n.toNat ≤ 250) (hl : ps.length = n.toNat) (ho : codeOwner c = none) :
    portCheck p (c :: n :: ps) = .failed c .unknown := by
  simp only [portCheck, if_neg (not_misformed hn hl), ho]

theorem portCheck_of_notOwner (hn : n.toNat ≤ 250) (hl : ps.length = n.toNat) {o : Owner} (ho : codeOwner c = some o)
    (ha : o.admits p = false) : portCheck p (c :: n :: ps) = .failed c .notOwner := by
  simp only [portCheck, if_neg (not_misformed hn hl), ho, ha, Bool.false_eq_true, not_false_eq_true, if_true]

theorem portCheck_of_misfit (hn : n.toNat ≤ 250) (hl : ps.length = n.toNat) {o : Owner} (ho : codeOwner c = some o)
    (ha : o.admits p = true) (hf : paramLengthFits c ps.length = false) : portCheck p (c :: n :: ps) = .failed c .length := by
  simp only [portCheck, if_neg (not_misformed hn hl), ho, ha, hf, Bool.false_eq_true, not_true_eq_false, not_false_eq_true, if_false, if_true]

theorem portCheck_of_fit (hn : n.toNat ≤ 250) (hl : ps.length = n.toNat) {o : Owner} (ho : codeOwner c = some o)
    (ha : o.admits p = true) (hf : paramLengthFits c ps.length = true) : portCheck p (c :: n :: ps) = .passed c ps := by
  simp only [portCheck, if_neg (not_misformed hn hl), ho, ha, hf, not_true_eq_false, if_false]

end Checks

end Sys2Proof.Machine

namespace Sys2Proof.Proofs

open Machine

/-- Settles O8: each check by its equation, the code's owner by its range. -/
theorem portChecksRunInOrder : Obligations.PortChecksRunInOrder := by
  refine fun p => ⟨rfl, fun c => rfl, fun c n ps => ?_⟩
  intro owned known mine
  refine ⟨portCheck_of_misformed, fun hn hl => ⟨fun hunknown => ?_, fun hknown hother => ?_, fun hmine hfit => ?_, fun hmine hfit => ?_⟩⟩
  · exact portCheck_of_unknown hn hl (codeOwner_eq_none.mpr hunknown)
  · obtain ⟨o, ho⟩ := Option.ne_none_iff_exists'.mp (mt codeOwner_eq_none.mp (not_not.mpr hknown))
    exact portCheck_of_notOwner hn hl ho (Bool.eq_false_iff.mpr fun ha => hother (codeOwner_admits.mp ⟨o, ho, ha⟩))
  · obtain ⟨o, ho, ha⟩ := codeOwner_admits.mpr hmine
    exact portCheck_of_misfit hn hl ho ha hfit
  · obtain ⟨o, ho, ha⟩ := codeOwner_admits.mpr hmine
    exact portCheck_of_fit hn hl ho ha hfit

end Sys2Proof.Proofs
end

section
/-! ## Command frames

Each controller command is carried by one frame that its port takes, and every frame that passes a port's checks carries one (R164, R165,
R170, R171). -/

namespace Sys2Proof.Machine

/-! ### Fields of several bytes -/

theorem be16_append (a b : Byte) : be16 (a ++ b) = [a, b] := by
  have hhigh : (a ++ b).extractLsb' 8 8 = a := BitVec.extractLsb'_append_eq_left
  have hlow : (a ++ b).extractLsb' 0 8 = b := BitVec.extractLsb'_append_eq_right
  rw [be16, hhigh, hlow]

theorem be24_append (a b c : Byte) : be24 (a ++ b ++ c) = [a, b, c] := by
  have hhigh : (a ++ b ++ c).extractLsb' 16 8 = (a ++ b).extractLsb' 8 8 := BitVec.extractLsb'_append_eq_of_le (by decide)
  have hmiddle : (a ++ b ++ c).extractLsb' 8 8 = (a ++ b).extractLsb' 0 8 := BitVec.extractLsb'_append_eq_of_le (by decide)
  have hlow : (a ++ b ++ c).extractLsb' 0 8 = c := BitVec.extractLsb'_append_eq_right
  rw [be24, hhigh, hmiddle, hlow, BitVec.extractLsb'_append_eq_left, BitVec.extractLsb'_append_eq_right]

/-- A 16-bit field is read back from its bytes (R169). -/
@[simp] theorem append_be16 (w : BitVec 16) : w.extractLsb' 8 8 ++ w.extractLsb' 0 8 = w := be16_inj.mp (be16_append ..)

/-- A 24-bit field is read back from its bytes (R169). -/
@[simp] theorem append_be24 (w : BitVec 24) : w.extractLsb' 16 8 ++ w.extractLsb' 8 8 ++ w.extractLsb' 0 8 = w :=
  be24_inj.mp (be24_append ..)

/-! ### Target bytes (R171) -/

@[simp] theorem targetByte_msb (top : BitVec 1) (low : BitVec 7) : (BitVec.append top low : Byte).msb = top.msb :=
  BitVec.msb_append

@[simp] theorem targetByte_low (top : BitVec 1) (low : BitVec 7) : (BitVec.append top low : Byte).setWidth 7 = low :=
  BitVec.setWidth_append_eq_right

/-- A target byte names a return or a tag by its top bit. -/
theorem targetByte_cases (b : Byte) : (∃ low : BitVec 7, b = BitVec.append (0#1) low) ∨ ∃ low : BitVec 7, b = BitVec.append (1#1) low := by
  have hb : b = BitVec.append (b.extractLsb' 7 1) (b.extractLsb' 0 7) := by
    have h : b.extractLsb' 7 1 ++ b.extractLsb' 0 7 = b.extractLsb' 0 8 := BitVec.extractLsb'_append_extractLsb'_eq_extractLsb' rfl
    exact (h.trans BitVec.extractLsb'_eq_self).symm
  obtain htop | htop := BitVec.eq_zero_or_eq_one (b.extractLsb' 7 1)
  · exact .inl ⟨_, htop ▸ hb⟩
  · exact .inr ⟨_, htop ▸ hb⟩

/-! ### Entries of the list commands (R170) -/

/-- The parameters of an entry of SET FADERS. -/
def faderBytes (e : Byte × Coeff) : List Byte := e.1 :: be16 e.2

/-- The parameters of an entry of SET SOURCE ON. -/
def onBytes (e : Byte × Byte) : List Byte := [e.1, e.2]

/-- The parameters of an entry of SET RETURN. -/
def returnBytes (e : ReturnEntry) : List Byte := e.1 :: (be16 e.2.1 ++ be24 e.2.2.1 ++ [e.2.2.2])

theorem commandFrame_setFaders (es : List (Byte × Coeff)) :
    commandFrame (.setFaders es) = some { port := .console, code := 0x21, params := es.flatMap faderBytes } := rfl

theorem commandFrame_setSourceOn (es : List (Byte × Byte)) :
    commandFrame (.setSourceOn es) = some { port := .console, code := 0x22, params := es.flatMap onBytes } := rfl

theorem commandFrame_setReturn (es : List ReturnEntry) :
    commandFrame (.setReturn es) = some { port := .console, code := 0x25, params := es.flatMap returnBytes } := rfl

theorem faderBytes_length (es : List (Byte × Coeff)) : (es.flatMap faderBytes).length = es.length * 3 :=
  length_flatMap_of_block (k := 3) (fun _ => rfl) es

theorem onBytes_length (es : List (Byte × Byte)) : (es.flatMap onBytes).length = es.length * 2 :=
  length_flatMap_of_block (k := 2) (fun _ => rfl) es

theorem returnBytes_length (es : List ReturnEntry) : (es.flatMap returnBytes).length = es.length * 7 :=
  length_flatMap_of_block (k := 7) (fun _ => rfl) es

theorem readFaders_bytes (es : List (Byte × Coeff)) : readFaders (es.flatMap faderBytes) = some es := by
  induction es with
  | nil => rfl
  | cons e es ih => simp [faderBytes, be16, readFaders, ih]

theorem readOnStates_bytes (es : List (Byte × Byte)) : readOnStates (es.flatMap onBytes) = some es := by
  induction es with
  | nil => rfl
  | cons e es ih => simp [onBytes, readOnStates, ih]

theorem readReturnEntries_bytes (es : List ReturnEntry) : readReturnEntries (es.flatMap returnBytes) = some es := by
  induction es with
  | nil => rfl
  | cons e es ih => simp [returnBytes, be16, be24, readReturnEntries, ih]

theorem faderBytes_surjective (ps : List Byte) (h : ps.length = 3) : ∃ e, faderBytes e = ps := by
  obtain ⟨s, a, b, rfl⟩ := List.length_eq_three.mp h
  exact ⟨(s, a ++ b), congrArg (s :: ·) (be16_append a b)⟩

theorem onBytes_surjective (ps : List Byte) (h : ps.length = 2) : ∃ e, onBytes e = ps := by
  obtain ⟨s, o, rfl⟩ := List.length_eq_two.mp h
  exact ⟨(s, o), rfl⟩

theorem returnBytes_surjective (ps : List Byte) (h : ps.length = 7) : ∃ e, returnBytes e = ps := by
  match ps, h with
  | [r, l1, l0, c2, c1, c0, f], _ => exact ⟨(r, l1 ++ l0, c2 ++ c1 ++ c0, f), by simp [returnBytes, be16_append, be24_append]⟩

/-- Parameters in whole entries are a list of entries, where each `k` bytes are the parameters of one. -/
theorem exists_entries {α : Type} {bytes : α → List Byte} {k : Nat}
    (hbytes : ∀ ps : List Byte, ps.length = k → ∃ e, bytes e = ps) (n : Nat) :
    ∀ ps : List Byte, ps.length = n * k → ∃ es : List α, es.length = n ∧ es.flatMap bytes = ps := by
  induction n with
  | zero => exact fun ps h => ⟨[], rfl, (List.length_eq_zero_iff.mp (h.trans (Nat.zero_mul k))).symm⟩
  | succ n ih =>
    intro ps h
    rw [Nat.add_mul, Nat.one_mul] at h
    obtain ⟨e, he⟩ := hbytes (ps.take k) (by rw [List.length_take]; omega)
    obtain ⟨es, hes, hrest⟩ := ih (ps.drop k) (by rw [List.length_drop]; omega)
    exact ⟨e :: es, congrArg Nat.succ hes, by rw [List.flatMap_cons, he, hrest, List.take_append_drop]⟩

/-! ### The frame of a command -/

/-- A frame that carries a command: its port takes its code, its parameters fit the code and the port, and they spell the command (R164,
R165, R170, R171). -/
structure Carries (f : CommandFrame) (c : Instr) : Prop where
  owned : ∃ o, codeOwner f.code = some o ∧ o.admits f.port = true
  fits : paramLengthFits f.code f.params.length = true
  short : f.params.length ≤ 250
  spells : parseParams f.port f.code f.params = some c

/-- The parameters of a list command fit in whole entries (R170). -/
theorem paramLengthFits_faders (n : Nat) : paramLengthFits 0x21 (n * 3) = true := beq_iff_eq.mpr (Nat.mul_mod_left n 3)

theorem paramLengthFits_onStates (n : Nat) : paramLengthFits 0x22 (n * 2) = true := beq_iff_eq.mpr (Nat.mul_mod_left n 2)

theorem paramLengthFits_returns (n : Nat) : paramLengthFits 0x25 (n * 7) = true := beq_iff_eq.mpr (Nat.mul_mod_left n 7)

/-- The frame of a well-formed command carries it. -/
theorem carries_of_commandFrame {c : Instr} {f : CommandFrame} (hw : c.wellFormed = true) (hf : commandFrame c = some f) : Carries f c := by
  cases c with
  | setFaders es =>
    obtain rfl := Option.some.inj ((commandFrame_setFaders es).symm.trans hf)
    refine ⟨⟨_, rfl, rfl⟩, ?_, Laws.FrameFits.setFaders es hw _ hf, congrArg (Option.map _) (readFaders_bytes es)⟩
    rw [faderBytes_length, paramLengthFits_faders]
  | setSourceOn es =>
    obtain rfl := Option.some.inj ((commandFrame_setSourceOn es).symm.trans hf)
    refine ⟨⟨_, rfl, rfl⟩, ?_, Laws.FrameFits.setSourceOn es hw _ hf, congrArg (Option.map _) (readOnStates_bytes es)⟩
    rw [onBytes_length, paramLengthFits_onStates]
  | setReturn es =>
    obtain rfl := Option.some.inj ((commandFrame_setReturn es).symm.trans hf)
    refine ⟨⟨_, rfl, rfl⟩, ?_, Laws.FrameFits.setReturn es hw _ hf, congrArg (Option.map _) (readReturnEntries_bytes es)⟩
    rw [returnBytes_length, paramLengthFits_returns]
  | setMinusList r ss =>
    obtain rfl := Option.some.inj hf
    exact ⟨⟨_, rfl, rfl⟩, decide_eq_true ss.length.succ_pos, Laws.FrameFits.setMinusList r ss hw _ hf, rfl⟩
  | setAirDelay | setRampSteps | setWatch | setConference | setTalkLevel | setDipLevel =>
    obtain rfl := Option.some.inj hf
    exact ⟨⟨_, rfl, rfl⟩, rfl, Nat.le_of_ble_eq_true rfl, by simp [parseParams, be16, be24]⟩
  | talkDirect | talkTag | releaseDirect | releaseTag =>
    obtain rfl := Option.some.inj hf
    exact ⟨⟨_, rfl, rfl⟩, rfl, Nat.le_of_ble_eq_true rfl, by simp [parseParams, -BitVec.append_eq]⟩
  | readSource | readReturn | readConference | readStatus | readKey | acknowledge | setNoticeMask | readCell | readWatch | setSourceKind
  | take | drop | clearReturn | setAirFeed | selectMonitor | attach | detach | screen | park | markReady | attachReturn | join | leave
  | setTags | bindKey | unbindKey | clearRefusals | setDebounce =>
    obtain rfl := Option.some.inj hf
    exact ⟨⟨_, rfl, rfl⟩, rfl, Nat.le_of_ble_eq_true rfl, rfl⟩
  | commandTransaction | fetch | invalidTransaction | frameArrival | silenceLimitReached | watchIntervalExpiry | airExitGuardExpiry
  | holdExpiry | shortFrame | syncLoss | keyLineChange | keyAcceptance | recomposeTake | recomposeCompletion | deviceReset
  | deviceResetEnd | frameSyncRisingEdge => cases hf

theorem toNat_paramLength {n : Nat} (h : n ≤ 250) : (BitVec.ofNat 8 n).toNat = n :=
  Nat.mod_eq_of_lt (by omega)

/-- A carried command's frame passes the checks of its port (R164). -/
theorem Carries.portCheck {f : CommandFrame} {c : Instr} (h : Carries f c) :
    portCheck f.port (f.code :: BitVec.ofNat 8 f.params.length :: f.params) = .passed f.code f.params := by
  obtain ⟨o, ho, ha⟩ := h.owned
  have hn := toNat_paramLength h.short
  exact portCheck_of_fit (by rw [hn]; exact h.short) hn.symm ho ha h.fits

theorem Carries.decodeCommand {f : CommandFrame} {c : Instr} (h : Carries f c) : decodeCommand f.port f.code f.params = some c := by
  obtain ⟨o, ho, ha⟩ := h.owned
  simp only [Sys2Proof.decodeCommand, ho, ha, if_true, h.spells]

/-- What passes the checks of a port (R164). -/
theorem of_portCheck_passed {p : Port} {frame : List Byte} {code : Byte} {params : List Byte} (h : portCheck p frame = .passed code params) :
    params.length ≤ 250 ∧ (∃ o, codeOwner code = some o ∧ o.admits p = true) ∧ paramLengthFits code params.length = true := by
  obtain rfl := frame_of_portCheck h
  have hformed : ¬ (250 < (BitVec.ofNat 8 params.length).toNat ∨ params.length ≠ (BitVec.ofNat 8 params.length).toNat) := fun hbad => by
    rw [portCheck_of_misformed hbad] at h
    cases h
  have hl : params.length = (BitVec.ofNat 8 params.length).toNat := by
    by_contra hne
    exact hformed (.inr hne)
  have hn : (BitVec.ofNat 8 params.length).toNat ≤ 250 := Nat.not_lt.mp fun hlt => hformed (.inl hlt)
  cases ho : codeOwner code with
  | none =>
    rw [portCheck_of_unknown hn hl ho] at h
    cases h
  | some o =>
    cases ha : o.admits p with
    | false =>
      rw [portCheck_of_notOwner hn hl ho ha] at h
      cases h
    | true =>
      cases hf : paramLengthFits code params.length with
      | false =>
        rw [portCheck_of_misfit hn hl ho ha hf] at h
        cases h
      | true => exact ⟨hl ▸ hn, ⟨o, rfl, ha⟩, rfl⟩

/-! ### The commands of the frames -/

/-- A code and parameters that a well-formed command's frame brings to a port. -/
def Brought (p : Port) (code : Byte) (params : List Byte) : Prop :=
  ∃ c : Instr, c.wellFormed = true ∧ commandFrame c = some { port := p, code := code, params := params }

section Brought

variable {p : Port} {code : Byte} {params : List Byte}

theorem brought_none {c : Instr} (hc : c.wellFormed = true ∧ commandFrame c = some { port := p, code := code, params := [] })
    (hl : params.length = 0) : Brought p code params := by
  obtain rfl := List.length_eq_zero_iff.mp hl
  exact ⟨c, hc⟩

theorem brought_one {c : Byte → Instr}
    (hc : ∀ b, (c b).wellFormed = true ∧ commandFrame (c b) = some { port := p, code := code, params := [b] })
    (hl : params.length = 1) : Brought p code params := by
  obtain ⟨b, rfl⟩ := List.length_eq_one_iff.mp hl
  exact ⟨c b, hc b⟩

theorem brought_two {c : Byte → Byte → Instr}
    (hc : ∀ a b, (c a b).wellFormed = true ∧ commandFrame (c a b) = some { port := p, code := code, params := [a, b] })
    (hl : params.length = 2) : Brought p code params := by
  obtain ⟨a, b, rfl⟩ := List.length_eq_two.mp hl
  exact ⟨c a b, hc a b⟩

/-- Parameters in whole entries. -/
theorem brought_entries {α : Type} {c : List α → Instr} {bytes : α → List Byte} {k : Nat}
    (hbytes : ∀ ps : List Byte, ps.length = k → ∃ e, bytes e = ps)
    (hw : ∀ es, k * es.length ≤ 250 → (c es).wellFormed = true)
    (hc : ∀ es, commandFrame (c es) = some { port := p, code := code, params := es.flatMap bytes })
    (hs : params.length ≤ 250) (hl : params.length % k = 0) : Brought p code params := by
  have hlen : params.length = params.length / k * k := (Nat.div_mul_cancel (Nat.dvd_of_mod_eq_zero hl)).symm
  obtain ⟨es, hes, rfl⟩ := exists_entries hbytes _ params hlen
  refine ⟨c es, hw es ?_, hc es⟩
  rw [hes, Nat.mul_comm, ← hlen]
  exact hs

end Brought

section Ranges

variable {code : Byte} {params : List Byte}

/-- The commands of every port (R165, R170). -/
theorem brought_anyPort (p : Port) (hc : 0x01 ≤ code.toNat ∧ code.toNat ≤ 0x09) (hf : paramLengthFits code params.length = true) :
    Brought p code params := by
  have hcode : code = 0x01 ∨ code = 0x02 ∨ code = 0x03 ∨ code = 0x04 ∨ code = 0x05 ∨ code = 0x06 ∨ code = 0x07 ∨ code = 0x08 ∨
    code = 0x09 := by bv_omega
  rcases hcode with rfl | rfl | rfl | rfl | rfl | rfl | rfl | rfl | rfl
  · exact brought_one (c := .readSource p) (fun _ => ⟨rfl, rfl⟩) (eq_of_beq hf)
  · exact brought_one (c := .readReturn p) (fun _ => ⟨rfl, rfl⟩) (eq_of_beq hf)
  · exact brought_one (c := .readConference p) (fun _ => ⟨rfl, rfl⟩) (eq_of_beq hf)
  · exact brought_none (c := .readStatus p) ⟨rfl, rfl⟩ (eq_of_beq hf)
  · exact brought_one (c := .readKey p) (fun _ => ⟨rfl, rfl⟩) (eq_of_beq hf)
  · exact brought_one (c := .acknowledge p) (fun _ => ⟨rfl, rfl⟩) (eq_of_beq hf)
  · exact brought_one (c := .setNoticeMask p) (fun _ => ⟨rfl, rfl⟩) (eq_of_beq hf)
  · exact brought_two (c := .readCell p) (fun _ _ => ⟨rfl, rfl⟩) (eq_of_beq hf)
  · exact brought_none (c := .readWatch p) ⟨rfl, rfl⟩ (eq_of_beq hf)

/-- The commands of the Console Port (R165, R171). -/
theorem brought_console (hc : 0x20 ≤ code.toNat ∧ code.toNat ≤ 0x2C) (hs : params.length ≤ 250)
    (hf : paramLengthFits code params.length = true) : Brought .console code params := by
  have hcode : code = 0x20 ∨ code = 0x21 ∨ code = 0x22 ∨ code = 0x23 ∨ code = 0x24 ∨ code = 0x25 ∨ code = 0x26 ∨ code = 0x27 ∨
    code = 0x28 ∨ code = 0x29 ∨ code = 0x2A ∨ code = 0x2B ∨ code = 0x2C := by bv_omega
  rcases hcode with rfl | rfl | rfl | rfl | rfl | rfl | rfl | rfl | rfl | rfl | rfl | rfl | rfl
  · exact brought_two (c := .setSourceKind) (fun _ _ => ⟨rfl, rfl⟩) (eq_of_beq hf)
  · exact brought_entries (c := .setFaders) faderBytes_surjective (fun _ => decide_eq_true) commandFrame_setFaders hs (eq_of_beq hf)
  · exact brought_entries (c := .setSourceOn) onBytes_surjective (fun _ => decide_eq_true) commandFrame_setSourceOn hs (eq_of_beq hf)
  · exact brought_one (c := .take) (fun _ => ⟨rfl, rfl⟩) (eq_of_beq hf)
  · exact brought_one (c := .drop) (fun _ => ⟨rfl, rfl⟩) (eq_of_beq hf)
  · exact brought_entries (c := .setReturn) returnBytes_surjective (fun _ => decide_eq_true) commandFrame_setReturn hs (eq_of_beq hf)
  · match params, hs, hf with
    | r :: ss, hs, _ => exact ⟨.setMinusList r ss, decide_eq_true (Nat.add_comm 1 _ ▸ hs), rfl⟩
  · exact brought_one (c := .clearReturn) (fun _ => ⟨rfl, rfl⟩) (eq_of_beq hf)
  · exact brought_one (c := .setAirFeed) (fun _ => ⟨rfl, rfl⟩) (eq_of_beq hf)
  · exact brought_two (c := fun a b => .setAirDelay (a ++ b)) (fun a b => ⟨rfl, by simp [commandFrame, be16_append]⟩) (eq_of_beq hf)
  · match params, hf with
    | [a, b, c, d], _ => exact ⟨.setRampSteps (a ++ b) (c ++ d), rfl, by simp [commandFrame, be16_append]⟩
  · match params, hf with
    | [w, c1, c0, t2, t1, t0, st], _ =>
      exact ⟨.setWatch w (c1 ++ c0) (t2 ++ t1 ++ t0) st, rfl, by simp [commandFrame, be16_append, be24_append]⟩
  · exact brought_one (c := .selectMonitor) (fun _ => ⟨rfl, rfl⟩) (eq_of_beq hf)

/-- The commands of the Screener Port (R165, R171). -/
theorem brought_screener (hc : 0x30 ≤ code.toNat ∧ code.toNat ≤ 0x38) (hf : paramLengthFits code params.length = true) :
    Brought .screener code params := by
  have hcode : code = 0x30 ∨ code = 0x31 ∨ code = 0x32 ∨ code = 0x33 ∨ code = 0x34 ∨ code = 0x35 ∨ code = 0x36 ∨ code = 0x37 ∨
    code = 0x38 := by bv_omega
  rcases hcode with rfl | rfl | rfl | rfl | rfl | rfl | rfl | rfl | rfl
  · exact brought_one (c := .attach) (fun _ => ⟨rfl, rfl⟩) (eq_of_beq hf)
  · exact brought_one (c := .detach) (fun _ => ⟨rfl, rfl⟩) (eq_of_beq hf)
  · exact brought_one (c := .screen) (fun _ => ⟨rfl, rfl⟩) (eq_of_beq hf)
  · exact brought_one (c := .park) (fun _ => ⟨rfl, rfl⟩) (eq_of_beq hf)
  · exact brought_one (c := .markReady) (fun _ => ⟨rfl, rfl⟩) (eq_of_beq hf)
  · exact brought_two (c := .attachReturn) (fun _ _ => ⟨rfl, rfl⟩) (eq_of_beq hf)
  · exact brought_two (c := .join) (fun _ _ => ⟨rfl, rfl⟩) (eq_of_beq hf)
  · exact brought_one (c := .leave) (fun _ => ⟨rfl, rfl⟩) (eq_of_beq hf)
  · match params, hf with
    | [k, g1, g0, b1, b0], _ => exact ⟨.setConference k (g1 ++ g0) (b1 ++ b0), rfl, by simp [commandFrame, be16_append]⟩

/-- The commands of the Talkback Port; the target byte chooses the form of TALK and RELEASE (R165, R171). -/
theorem brought_talkback (hc : 0x40 ≤ code.toNat ∧ code.toNat ≤ 0x48) (hf : paramLengthFits code params.length = true) :
    Brought .talkback code params := by
  have hcode : code = 0x40 ∨ code = 0x41 ∨ code = 0x42 ∨ code = 0x43 ∨ code = 0x44 ∨ code = 0x45 ∨ code = 0x46 ∨ code = 0x47 ∨
    code = 0x48 := by bv_omega
  rcases hcode with rfl | rfl | rfl | rfl | rfl | rfl | rfl | rfl | rfl
  · match params, hf with
    | [o, t, m, pr, h], _ =>
      obtain ⟨r, rfl⟩ | ⟨g, rfl⟩ := targetByte_cases t
      · exact ⟨.talkDirect o r m pr h, rfl, rfl⟩
      · exact ⟨.talkTag o g m pr h, rfl, rfl⟩
  · match params, hf with
    | [o, t], _ =>
      obtain ⟨r, rfl⟩ | ⟨g, rfl⟩ := targetByte_cases t
      · exact ⟨.releaseDirect o r, rfl, rfl⟩
      · exact ⟨.releaseTag o g, rfl, rfl⟩
  · match params, hf with
    | [s, a, b], _ => exact ⟨.setTalkLevel s (a ++ b), rfl, by simp [commandFrame, be16_append]⟩
  · match params, hf with
    | [r, a, b], _ => exact ⟨.setDipLevel r (a ++ b), rfl, by simp [commandFrame, be16_append]⟩
  · match params, hf with
    | [r, a, b, c, d], _ => exact ⟨.setTags r a b c d, rfl, rfl⟩
  · match params, hf with
    | [k, o, t, m, pr, h, l, km], _ => exact ⟨.bindKey k o t m pr h l km, rfl, rfl⟩
  · exact brought_one (c := .unbindKey) (fun _ => ⟨rfl, rfl⟩) (eq_of_beq hf)
  · exact brought_one (c := .clearRefusals) (fun _ => ⟨rfl, rfl⟩) (eq_of_beq hf)
  · exact brought_one (c := .setDebounce) (fun _ => ⟨rfl, rfl⟩) (eq_of_beq hf)

/-- A code that a port takes, with parameters that fit it, is a command's (R165, R170, R171). -/
theorem brought_of_fit {p : Port} (ho : ∃ o, codeOwner code = some o ∧ o.admits p = true) (hs : params.length ≤ 250)
    (hf : paramLengthFits code params.length = true) : Brought p code params := by
  obtain hc | ⟨rfl, hc⟩ | ⟨rfl, hc⟩ | ⟨rfl, hc⟩ := codeOwner_admits.mp ho
  · exact brought_anyPort p hc hf
  · exact brought_console hc hs hf
  · exact brought_screener hc hf
  · exact brought_talkback hc hf

end Ranges

end Sys2Proof.Machine

namespace Sys2Proof.Proofs

open Machine

/-- Settles O6, by what a frame carries. -/
theorem commandFramesAreReadBack : Obligations.CommandFramesAreReadBack := fun _ _ hw hf =>
  ⟨(carries_of_commandFrame hw hf).portCheck, (carries_of_commandFrame hw hf).decodeCommand⟩

/-- Settles O7: the passed code and parameters are a command's, whose frame is read back. -/
theorem passedFramesAreCommands : Obligations.PassedFramesAreCommands := by
  intro p frame code params h
  obtain ⟨hs, ho, hf⟩ := of_portCheck_passed h
  obtain ⟨c, hw, hc⟩ := brought_of_fit ho hs hf
  exact ⟨frame_of_portCheck h, c, (carries_of_commandFrame hw hc).decodeCommand, hw, hc⟩

end Sys2Proof.Proofs
end

section
/-! ## Transactions

A COMMAND or FETCH transaction at each state of the slot (R158 to R162), and a controller command as its transaction and then its
completion (log entry 4). -/

namespace Sys2Proof.Machine

/-! ### COMMAND and FETCH at a slot -/

section Slots

variable {s : State} {p : Port} (frame : List Byte) (clocked : Nat)

theorem State.arrive_empty (h : (s.port p).slot = .empty) : s.arrive p frame clocked =
    s.setPort p { s.port p with slot := slotAfterCheck (portCheck p frame), dataOut := List.replicate clocked false } := by
  simp only [State.arrive, h]

theorem State.arrive_done {code : Byte} {result : ResultCode} {body : List Byte} (h : (s.port p).slot = .done code result body) :
    s.arrive p frame clocked = s.setPort p
      { s.port p with slot := slotAfterCheck (portCheck p frame), overrun := true, dataOut := List.replicate clocked false } := by
  simp only [State.arrive, h]

theorem State.arrive_working {code : Byte} {params : List Byte} (h : (s.port p).slot = .working code params) :
    s.arrive p frame clocked = s.setPort p { s.port p with overrun := true, dataOut := List.replicate clocked false } := by
  simp only [State.arrive, h]

/-- A slot that works nothing takes the command that passes its checks (R160). -/
theorem State.arrive_taken {code : Byte} {params : List Byte} (h : ∀ code params, (s.port p).slot ≠ .working code params)
    (hf : portCheck p frame = .passed code params) : ((s.arrive p frame clocked).port p).slot = .working code params := by
  cases hs : (s.port p).slot with
  | empty => rw [State.arrive_empty frame clocked hs, State.setPort_same, hf]; rfl
  | working code params => exact absurd hs (h code params)
  | done code result body => rw [State.arrive_done frame clocked hs, State.setPort_same, hf]; rfl

/-- A FETCH of a slot that is not DONE leaves the slot as it is (R161). -/
theorem PortState.fetched_kept {q : PortState} (n : Nat) (h : ∀ code result body, q.slot ≠ .done code result body) :
    q.fetched n = { q with dataOut := List.replicate 8 false ++ clockOut n (responseFrame q) } := by
  unfold PortState.fetched
  dsimp only
  split
  · next code result body hdone => exact absurd hdone (h code result body)
  · rfl
  · rfl

/-- A FETCH of a DONE slot empties it (R161). -/
theorem PortState.fetched_done {q : PortState} (n : Nat) {code : Byte} {result : ResultCode} {body : List Byte}
    (h : q.slot = .done code result body) : q.fetched n =
      { q with dataOut := List.replicate 8 false ++ clockOut n (responseFrame q), slot := .empty, overrun := false } := by
  simp only [PortState.fetched, h]

end Slots

theorem frameBits_length (frame : List Byte) : (frameBits frame).length = 8 + 8 * frame.length := by
  simp only [frameBits, List.length_flatMap, byteBits_length, List.map_const', List.sum_replicate, List.length_cons, smul_eq_mul]
  omega

/-- A COMMAND transaction out of reset is its arrival, with zeros sent for all its bits (R159). -/
theorem exec_commandTransaction {s : State} (p : Port) (frame : List Byte) {tail : List Bool} (hr : s.inReset = false)
    (ht : tail.length < 8) : exec (.commandTransaction p ⟨frame, tail⟩) s = .next (s.arrive p frame (8 + 8 * frame.length + tail.length)) := by
  show s.whenever true (s.transact p (frameBits frame ++ tail)) = _
  rw [State.whenever_of _ hr, State.transact_command s p frame ht, List.length_append, frameBits_length]

/-- A FETCH transaction out of reset (R161). -/
theorem exec_fetch {s : State} (p : Port) (dataIn : List Byte) {tail : List Bool} (hr : s.inReset = false) (ht : tail.length < 8) :
    exec (.fetch p ⟨dataIn, tail⟩) s = .next (s.setPort p ((s.port p).fetched (8 * dataIn.length + tail.length))) := by
  show s.whenever true (s.transact p ((fetchDirection :: dataIn).flatMap byteBits ++ tail)) = _
  rw [State.whenever_of _ hr, State.transact_fetch s p dataIn ht]

/-- A transaction that begins with another byte names no direction (R158). -/
theorem noDirection_of_byte {d : Byte} (hc : d ≠ commandDirection) (hf : d ≠ fetchDirection) (rest : List Bool) :
    noDirection (byteBits d ++ rest) = true := by
  simp only [noDirection, wholeBytes_append, directionOf, if_neg hc, if_neg hf, Option.isNone_none]

theorem noDirection_of_short {bits : List Bool} (h : bits.length < 8) : noDirection bits = true := by
  rw [noDirection, wholeBytes_short h]

/-- A transaction that names no direction, or is abandoned, changes nothing (R158). -/
theorem exec_invalidTransaction {s : State} {p : Port} {bits : List Bool} {abandoned : Bool}
    (h : abandoned = true ∨ noDirection bits = true) :
    exec (.invalidTransaction p ⟨bits, abandoned⟩) s = .next s := by
  show s.whenever (!abandoned) (s.transact p bits) = _
  obtain rfl | h := h
  · exact State.whenever_false s _
  · rw [State.transact_none h]
    obtain hn | ⟨_, _, hn⟩ := s.whenever_cases (!abandoned) s <;> exact hn

/-! ### Arrival and completion -/

/-- A controller command is performed by an owning block (R162). -/
theorem exec_of_frame {c : Instr} {f : CommandFrame} (hf : commandFrame c = some f) :
    ∃ owner, ∀ s : State, exec c s = .next (s.runCommand f owner) := by
  have hperform : ∀ owner, (∀ s, exec c s = s.perform c owner) → ∃ owner, ∀ s : State, exec c s = .next (s.runCommand f owner) :=
    fun owner h => ⟨owner, fun s => by simp only [h, State.perform, hf]⟩
  cases c with
  | commandTransaction | fetch | invalidTransaction | frameArrival | silenceLimitReached | watchIntervalExpiry | airExitGuardExpiry
  | holdExpiry | shortFrame | syncLoss | keyLineChange | keyAcceptance | recomposeTake | recomposeCompletion | deviceReset
  | deviceResetEnd | frameSyncRisingEdge => cases hf
  | _ => exact hperform _ fun _ => rfl

section RunCommand

variable {s : State} {f : CommandFrame} (owner : State → State × Answer)

/-- A slot that works another command discards the one that arrives (R160). -/
theorem State.runCommand_discarded (hr : s.inReset = false) {code : Byte} {params : List Byte}
    (h : (s.port f.port).slot = .working code params) (hne : (code, params) ≠ (f.code, f.params)) :
    s.runCommand f owner = s.arrive f.port f.bytes (frameBits f.bytes).length := by
  have hother : ¬ (s.port f.port).slot = .working f.code f.params := fun he => by
    obtain ⟨rfl, rfl⟩ := Slot.working.inj (h.symm.trans he)
    exact hne rfl
  have harrived : ¬ ((s.arrive f.port f.bytes (frameBits f.bytes).length).port f.port).slot = .working f.code f.params := by
    rwa [State.arrive_working _ _ h, State.setPort_same]
  simp only [State.runCommand, hr, Bool.false_eq_true, if_false, hother, harrived]

/-- A command that arrives and is taken completes from its arrival as it would from here (log entry 4). -/
theorem State.runCommand_arrived (hr : s.inReset = false) (h : (s.port f.port).slot ≠ .working f.code f.params)
    (ht : ((s.arrive f.port f.bytes (frameBits f.bytes).length).port f.port).slot = .working f.code f.params) :
    s.runCommand f owner = (s.arrive f.port f.bytes (frameBits f.bytes).length).runCommand f owner := by
  have hrt : (s.arrive f.port f.bytes (frameBits f.bytes).length).inReset = false := by
    obtain ⟨_, _, ha⟩ := s.arrive_frame f.port f.bytes (frameBits f.bytes).length
    rw [ha, State.setPort_inReset, hr]
  simp only [State.runCommand, hr, hrt, h, ht, Bool.false_eq_true, if_false, if_true]

end RunCommand

theorem frameBits_bytes_length (f : CommandFrame) : (frameBits f.bytes).length = 24 + 8 * f.params.length := by
  rw [frameBits_length]
  simp only [CommandFrame.bytes, List.length_cons]
  omega

end Sys2Proof.Machine

namespace Sys2Proof.Proofs

open Machine

/-- Settles O9: the arrival at each state of the slot. -/
theorem commandTransactionsArriveAtTheSlot : Obligations.CommandTransactionsArriveAtTheSlot := by
  intro s p frame tail hr ht zeros after
  have harrive := exec_commandTransaction p frame hr ht
  refine ⟨fun h => ?_, fun code result body h => ?_, fun code params h => ?_⟩
  · rw [harrive, State.arrive_empty _ _ h]
    rfl
  · rw [harrive, State.arrive_done _ _ h]
    rfl
  · rw [harrive, State.arrive_working _ _ h]

/-- Settles O10: a discarded command is its arrival, a taken one completes from its arrival. -/
theorem aCommandArrivesAndThenCompletes : Obligations.ACommandArrivesAndThenCompletes := by
  intro s c f hr hw hf
  obtain ⟨owner, howner⟩ := exec_of_frame hf
  refine ⟨fun code params h hne => ?_, fun h => ?_⟩
  · rw [howner, State.runCommand_discarded owner hr h hne, State.arrive_working _ _ h, frameBits_bytes_length]
  · have htaken := State.arrive_taken f.bytes (frameBits f.bytes).length h (carries_of_commandFrame hw hf).portCheck
    refine ⟨s.arrive f.port f.bytes (frameBits f.bytes).length, ?_, ⟨?_, htaken⟩, ?_⟩
    · rw [frameBits_length]
      exact exec_commandTransaction f.port f.bytes (tail := []) hr (by decide)
    · obtain ⟨_, _, ha⟩ := s.arrive_frame f.port f.bytes (frameBits f.bytes).length
      rw [ha, State.setPort_inReset, hr]
    · rw [howner, howner, State.runCommand_arrived owner hr (h _ _) htaken]

/-- Settles O11: the bits of a byte, a FETCH at each state of the slot, and the transactions that name no direction. -/
theorem fetchSendsTheResponseFrame : Obligations.FetchSendsTheResponseFrame := by
  refine ⟨fun b => rfl, fun s p dataIn tail hr ht => ?_, fun s p bits abandoned h => exec_invalidTransaction ?_⟩
  · intro n sent flag
    rw [exec_fetch p dataIn hr ht]
    refine ⟨fun h => ?_, fun code params h => ?_, fun code result body h => ?_⟩
    · have hframe : responseFrame (s.port p) = [0, flag, 0, 0, 0, 0] := by simp only [responseFrame, h]; rfl
      rw [PortState.fetched_kept _ (by simp [h]), hframe]
      rfl
    · have hframe : responseFrame (s.port p) = [1, flag, code, 0, 0, 0] := by simp only [responseFrame, h]; rfl
      rw [PortState.fetched_kept _ (by simp [h]), hframe]
      rfl
    · have hframe : responseFrame (s.port p) = [2, flag, code, result.byte] ++ count16 body.length ++ body := by
        simp only [responseFrame, h]; rfl
      rw [PortState.fetched_done _ h, hframe]
      rfl
  · obtain h | h | ⟨d, rest, rfl, hc, hf⟩ := h
    · exact .inl h
    · exact .inr (noDirection_of_short h)
    · exact .inr (noDirection_of_byte hc hf rest)

end Sys2Proof.Proofs
end

section
/-! ## Pending kinds, attention lines and the Notice Unit's commands (R172, R174 to R177) -/

namespace Sys2Proof.Machine

/-! ### Index sets and kind sets -/

theorem hasIndex_addIndex (set : IndexSet) (i j : Nat) :
    hasIndex (addIndex set i) j = (hasIndex set j || (decide (j = i) && decide (i < 32))) := by
  rw [hasIndex, addIndex, BitVec.getLsbD_or, BitVec.getLsbD_twoPow, Bool.and_comm, decide_eq_decide.mpr eq_comm]
  rfl

/-- The bits that a walk over the kinds adds to a kind set (R172). -/
theorem foldl_pending_getLsbD (m : NoticeMap) (j : Nat) (l : List (Fin 5)) (acc : Byte) :
    (l.foldl (fun acc b => if m.sets[b] = 0 then acc else acc ||| BitVec.twoPow 8 b.val) acc).getLsbD j =
      (acc.getLsbD j || l.any fun b => decide (m.sets[b] ≠ 0) && decide (b.val = j)) := by
  induction l generalizing acc with
  | nil => simp
  | cons b l ih =>
    rw [List.foldl_cons, ih, List.any_cons]
    by_cases hb : m.sets[b] = 0
    · rw [if_pos hb, decide_eq_false (not_not.mpr hb), Bool.false_and, Bool.false_or]
    · have hlt : b.val < 8 := by omega
      rw [if_neg hb, decide_eq_true hb, BitVec.getLsbD_or, BitVec.getLsbD_twoPow, decide_eq_true hlt, Bool.or_assoc]

/-- A bit of the pending kinds: SYNC CHANGE at bit 7, and the kind of the bit with an index set that is not empty (R172, R174). -/
theorem pendingKinds_getLsbD (m : NoticeMap) (j : Nat) : (pendingKinds m).getLsbD j =
    (m.sync && decide (j = 7) || (List.finRange 5).any fun b => decide (m.sets[b] ≠ 0) && decide (b.val = j)) := by
  have hsync : (if m.sync then 0x80 else 0 : Byte).getLsbD j = (m.sync && decide (j = 7)) := by
    cases m.sync with
    | false => simp
    | true =>
      have htop : (0x80 : Byte) = BitVec.twoPow 8 7 := rfl
      rw [if_pos rfl, htop, BitVec.getLsbD_twoPow]
      simp [eq_comm]
  rw [pendingKinds, foldl_pending_getLsbD, hsync]

theorem pendingKinds_kind (m : NoticeMap) (b : Fin 5) : (pendingKinds m).getLsbD b.val = decide (m.sets[b] ≠ 0) := by
  have hsync : decide (b.val = 7) = false := decide_eq_false (by omega)
  rw [pendingKinds_getLsbD, hsync, Bool.and_false, Bool.false_or, Bool.eq_iff_iff, List.any_eq_true, decide_eq_true_iff]
  constructor
  · rintro ⟨c, _, hc⟩
    obtain ⟨hne, hcb⟩ := Bool.and_eq_true_iff.mp hc
    obtain rfl := Fin.ext (of_decide_eq_true hcb)
    exact of_decide_eq_true hne
  · intro hne
    exact ⟨b, List.mem_finRange b, by rw [decide_eq_true hne, decide_eq_true rfl]; rfl⟩

/-- Above the bits of the kinds only that of SYNC CHANGE is ever set (R172). -/
theorem pendingKinds_high (m : NoticeMap) {j : Nat} (hlow : 5 ≤ j) : (pendingKinds m).getLsbD j = (m.sync && decide (j = 7)) := by
  have hkinds : (List.finRange 5).any (fun b => decide (m.sets[b] ≠ 0) && decide (b.val = j)) = false :=
    List.any_eq_false.mpr fun b _ => by simp [show b.val ≠ j by omega]
  rw [pendingKinds_getLsbD, hkinds, Bool.or_false]

/-! ### The attention line -/

theorem and_ne_zero_iff (x y : Byte) : (x &&& y != 0) = true ↔ ∃ j < 8, x.getLsbD j = true ∧ y.getLsbD j = true := by
  rw [bne_iff_ne, ne_eq, BitVec.eq_of_getLsbD_eq_iff]
  simp

/-- A port's attention line is asserted exactly when a pending kind is enabled (R176). -/
theorem PortState.attention_iff (q : PortState) : q.attention = true ↔
    (∃ b : Fin 5, q.notices.sets[b] ≠ 0 ∧ q.mask.getLsbD b.val = true) ∨ (q.notices.sync = true ∧ q.mask.getLsbD 7 = true) := by
  rw [PortState.attention, and_ne_zero_iff]
  constructor
  · rintro ⟨j, hj, hp, hm⟩
    by_cases hlow : j < 5
    · rw [pendingKinds_kind q.notices ⟨j, hlow⟩] at hp
      exact .inl ⟨⟨j, hlow⟩, of_decide_eq_true hp, hm⟩
    · rw [pendingKinds_high q.notices (Nat.le_of_not_lt hlow)] at hp
      obtain ⟨hsync, h7⟩ := Bool.and_eq_true_iff.mp hp
      obtain rfl := of_decide_eq_true h7
      exact .inr ⟨hsync, hm⟩
  · rintro (⟨b, hne, hm⟩ | ⟨hsync, hm⟩)
    · exact ⟨b.val, by omega, by rw [pendingKinds_kind]; exact decide_eq_true hne, hm⟩
    · exact ⟨7, by omega, by rw [pendingKinds_high _ (by omega), hsync]; rfl, hm⟩

/-! ### Kind sets of a port -/

theorem and_not_eq_zero_iff (x y : Byte) : x &&& ~~~y = 0 ↔ x &&& y = x := by
  rw [BitVec.eq_of_getLsbD_eq_iff, BitVec.eq_of_getLsbD_eq_iff]
  refine forall₂_congr fun i hi => ?_
  rw [BitVec.getLsbD_and, BitVec.getLsbD_and, BitVec.getLsbD_not, decide_eq_true hi]
  cases x.getLsbD i <;> cases y.getLsbD i <;> simp

theorem kindsLegal_iff (p : Port) (kinds : Byte) : kindsLegal p kinds = true ↔ kinds &&& allKinds p = kinds := by
  rw [kindsLegal, beq_iff_eq, and_not_eq_zero_iff]

theorem allKinds_eq (p : Port) : allKinds p = if p = .screener then 0x83 else 0x9F := by cases p <;> rfl

theorem kindCount_eq (p : Port) : kindCount p = if p = .screener then 2 else 5 := by cases p <;> rfl

theorem NoticeMap.clear_eq (m : NoticeMap) (kinds : Byte) : m.clear kinds =
    { sets := Vector.ofFn fun b : Fin 5 => if kinds.getLsbD b.val then 0 else m.sets[b]
      sync := if kinds.getLsbD 7 then false else m.sync } := by
  rw [NoticeMap.clear]
  cases kinds.getLsbD 7 <;> simp

end Sys2Proof.Machine

namespace Sys2Proof.Proofs

open Machine

/-- Settles O17: a raise by the port it writes, the pending kinds bit by bit. -/
theorem raisesAndAttentionLines : Obligations.RaisesAndAttentionLines := by
  refine ⟨fun s k i => ⟨rfl, fun p hp => ?_, ?_, fun b hb => ?_, fun j => ?_⟩, fun m => ⟨pendingKinds_kind m, ?_, ?_, ?_⟩,
    fun s p => (s.port p).attention_iff⟩
  · rw [State.raise_port, if_neg hp.symm]
  · rw [State.raise_port, if_pos rfl]
    rfl
  · rw [State.raise_port, if_pos rfl]
    exact Vector.getElem_set_ne k.bit.isLt b.isLt fun hv => hb (Fin.ext hv).symm
  · rw [State.raise_port, if_pos rfl, ← hasIndex_addIndex]
    exact congrArg (hasIndex · j) (Vector.getElem_set_self _)
  · rw [pendingKinds_high m (by decide), decide_eq_true rfl, Bool.and_true]
  · exact (pendingKinds_high m (by decide)).trans (Bool.and_false _)
  · exact (pendingKinds_high m (by decide)).trans (Bool.and_false _)

/-- Settles O18: by whether the kind set names kinds of the port alone. -/
theorem acknowledgeAndSetNoticeMaskActOnTheirPort : Obligations.AcknowledgeAndSetNoticeMaskActOnTheirPort := by
  refine ⟨fun s p kinds => ?_, fun s p kinds => ?_⟩
  · intro q named sets
    have hlegal : kindsLegal p kinds = true ↔ kinds &&& named = kinds := by rw [kindsLegal_iff, allKinds_eq]
    refine ⟨fun h => completes_of_owner rfl rfl ?_, fun h => completes_of_owner rfl rfl ?_⟩
    · rw [ownerAcknowledge, if_pos (hlegal.mpr h)]
      dsimp only
      rw [NoticeMap.clear_eq, mapBytes, kindCount_eq]
    · rw [ownerAcknowledge, if_neg (mt hlegal.mp h)]
  · intro named
    have hlegal : kindsLegal p kinds = true ↔ kinds &&& named = kinds := by rw [kindsLegal_iff, allKinds_eq]
    refine ⟨fun h => completes_of_owner rfl rfl ?_, fun h => completes_of_owner rfl rfl ?_⟩
    · rw [ownerSetNoticeMask, if_pos (hlegal.mpr h)]
    · rw [ownerSetNoticeMask, if_neg (mt hlegal.mp h)]

end Sys2Proof.Proofs
end

section
/-! ## What a refused command changes

An owning block answers OK or leaves the state as it found it (R166); TALK alone, where it is refused, counts (R65, R85). -/

namespace Sys2Proof.Machine

/-! ### Answers that leave the state -/

/-- An owner's answer is OK, or its state is the one it found. -/
def Answered (s : State) (d : State × Answer) : Prop := d.2.result = .ok ∨ d.1 = s

@[simp] theorem answered_ok (s t : State) (body : List Byte) : Answered s (t, ok body) := .inl rfl

@[simp] theorem answered_same (s : State) (a : Answer) : Answered s (s, a) := .inr rfl

/-! ### Releases that find nothing (R67, R88) -/

theorem State.releaseOn_none {s t : State} {r : ReturnId} {p : Request → Bool} (h : s.releaseOn r p = (t, none)) : t = s := by
  unfold State.releaseOn at h
  split at h
  · exact (Prod.mk.inj h).1.symm
  · cases h

/-- A release on every return that finds no request leaves the state. -/
theorem State.releaseAll_nil (s : State) (p : Request → Bool) : (s.releaseAll p).2 = [] → (s.releaseAll p).1 = s :=
  foldl_keeps (fun d : State × List (ReturnId × Released) => d.2 = [] → d.1 = s) _
    (fun d r hd => by
      split
      · next t hr => exact fun hnil => (State.releaseOn_none hr).trans (hd hnil)
      · simp)
    (List.finRange 24) (s, []) fun _ => rfl

/-! ### The owning blocks -/

section Owners

variable (s : State)

theorem answered_withRemote (b : Byte) {act : SourceId → State × Answer} (h : ∀ i, Answered s (act i)) :
    Answered s (s.withRemote b act) := by
  unfold State.withRemote
  split
  · simp
  · split
    · exact h _
    · simp

theorem ownerAttach_answered (b : Byte) : Answered s (ownerAttach b s) := answered_withRemote s b fun i => by split <;> simp

theorem ownerScreen_answered (b : Byte) : Answered s (ownerScreen b s) := answered_withRemote s b fun i => by split <;> simp

theorem ownerPark_answered (b : Byte) : Answered s (ownerPark b s) := answered_withRemote s b fun i => by split <;> simp

theorem ownerMarkReady_answered (b : Byte) : Answered s (ownerMarkReady b s) := answered_withRemote s b fun i => by split <;> simp

theorem ownerTake_answered (b : Byte) : Answered s (ownerTake b s) := answered_withRemote s b fun i => by split <;> simp

theorem ownerDrop_answered (b : Byte) : Answered s (ownerDrop b s) := answered_withRemote s b fun i => by split <;> simp

theorem ownerDetach_answered (b : Byte) : Answered s (ownerDetach b s) := answered_withRemote s b fun i => by split <;> simp

theorem ownerSetSourceKind_answered (source kind : Byte) : Answered s (ownerSetSourceKind source kind s) := by
  unfold ownerSetSourceKind
  split
  · split <;> simp
  · simp

theorem ownerSetFaders_answered (es : List (Byte × Coeff)) : Answered s (ownerSetFaders es s) := by
  unfold ownerSetFaders
  split <;> simp

theorem ownerSetSourceOn_answered (es : List (Byte × Byte)) : Answered s (ownerSetSourceOn es s) := by
  unfold ownerSetSourceOn
  split <;> simp

theorem ownerSetAirFeed_answered (source : Byte) : Answered s (ownerSetAirFeed source s) := by
  unfold ownerSetAirFeed
  split
  · simp
  · simp
  · split <;> simp

theorem ownerSetReturn_answered (es : List ReturnEntry) : Answered s (ownerSetReturn es s) := by
  unfold ownerSetReturn
  split <;> simp

theorem ownerSetMinusList_answered (ret : Byte) (bs : List Byte) : Answered s (ownerSetMinusList ret bs s) := by
  unfold ownerSetMinusList
  split
  · simp
  · split
    · simp
    · split <;> simp

theorem ownerClearReturn_answered (ret : Byte) : Answered s (ownerClearReturn ret s) := by
  unfold ownerClearReturn
  split <;> simp

theorem ownerSelectMonitor_answered (ret : Byte) : Answered s (ownerSelectMonitor ret s) := by
  unfold ownerSelectMonitor
  split <;> simp

theorem ownerAttachReturn_answered (ret source : Byte) : Answered s (ownerAttachReturn ret source s) := by
  unfold ownerAttachReturn
  split
  · dsimp only
    split_ifs <;> simp
  · simp

theorem ownerSetDipLevel_answered (ret : Byte) (l : Coeff) : Answered s (ownerSetDipLevel ret l s) := by
  unfold ownerSetDipLevel
  split <;> simp

theorem ownerSetTags_answered (ret b0 b1 b2 d : Byte) : Answered s (ownerSetTags ret b0 b1 b2 d s) := by
  unfold ownerSetTags
  split
  · dsimp only
    split <;> simp
  · simp

theorem ownerClearRefusals_answered (ret : Byte) : Answered s (ownerClearRefusals ret s) := by
  unfold ownerClearRefusals
  split <;> simp

theorem ownerJoin_answered (source conference : Byte) : Answered s (ownerJoin source conference s) := by
  unfold ownerJoin
  split
  · dsimp only
    split_ifs <;> simp
  · simp

theorem ownerLeave_answered (source : Byte) : Answered s (ownerLeave source s) := by
  unfold ownerLeave
  split
  · simp
  · split <;> simp

theorem ownerSetConference_answered (conference : Byte) (g b : Coeff) : Answered s (ownerSetConference conference g b s) := by
  unfold ownerSetConference
  split <;> simp

theorem ownerSetTalkLevel_answered (source : Byte) (l : Coeff) : Answered s (ownerSetTalkLevel source l s) := by
  unfold ownerSetTalkLevel
  split <;> simp

theorem ownerBindKey_answered (key o target m p h l km : Byte) : Answered s (ownerBindKey key o target m p h l km s) := by
  unfold ownerBindKey
  split <;> simp

theorem ownerUnbindKey_answered (key : Byte) : Answered s (ownerUnbindKey key s) := by
  unfold ownerUnbindKey
  split
  · simp
  · split <;> simp

theorem ownerAcknowledge_answered (p : Port) (kinds : Byte) : Answered s (ownerAcknowledge p kinds s) := by
  unfold ownerAcknowledge
  split <;> simp

theorem ownerSetNoticeMask_answered (p : Port) (kinds : Byte) : Answered s (ownerSetNoticeMask p kinds s) := by
  unfold ownerSetNoticeMask
  split <;> simp

theorem ownerReleaseDirect_answered (o : Byte) (ret : BitVec 7) : Answered s (ownerReleaseDirect o ret s) := by
  unfold ownerReleaseDirect
  split
  · split
    · next t hr => exact .inr (State.releaseOn_none hr)
    · simp
  · simp

theorem ownerReleaseTag_answered (o : Byte) (tag : BitVec 7) : Answered s (ownerReleaseTag o tag s) := by
  unfold ownerReleaseTag
  split
  · next i g _ _ =>
    dsimp only
    split
    · next hnil =>
      rw [s.releaseAll_nil (byTag i g) (List.isEmpty_iff.mp hnil)]
      exact answered_same s _
    · simp
  · simp

end Owners

/-! ### Refusals that count (R65, R85) -/

/-- A state that differs from another in the refusal counts of its returns alone. -/
structure State.CountsOnly (s t : State) : Prop where
  records : ∀ r : ReturnId, t.returns[r] = { s.returns[r] with refusals := t.returns[r].refusals }
  rest : t = { s with returns := t.returns }

theorem State.CountsOnly.refl (s : State) : s.CountsOnly s := ⟨fun _ => rfl, rfl⟩

theorem State.CountsOnly.trans {s t u : State} (h : s.CountsOnly t) (k : t.CountsOnly u) : s.CountsOnly u where
  records r := (k.records r).trans (congrArg (fun x : Return => { x with refusals := u.returns[r].refusals }) (h.records r))
  rest := k.rest.trans (congrArg (fun x : State => { x with returns := u.returns }) h.rest)

theorem State.countRefusal_countsOnly (s : State) (r : ReturnId) : s.CountsOnly (s.countRefusal r) where
  records q := by
    rw [State.countRefusal, State.setReturn_read]
    split
    · next h => subst h; rfl
    · rfl
  rest := rfl

/-- An outcome that is a refusal (R64). -/
def TalkOutcome.Refuses (o : TalkOutcome) : Prop := ∃ c, o = .refused c

theorem State.talkOn_countsOnly {s t : State} {r : ReturnId} {q : Request} {o : TalkOutcome} (h : s.talkOn r q = (t, o))
    (ho : o.Refuses) : s.CountsOnly t := by
  obtain ⟨c, rfl⟩ := ho
  rw [State.talkOn_eq] at h
  obtain ⟨rfl, hc⟩ := Prod.mk.inj h
  rw [hc, State.round_refused]
  exact s.countRefusal_countsOnly r

theorem State.visit_countsOnly {s t : State} {r : ReturnId} {q : Request} {o : Option TalkOutcome} (h : s.visit r q = (t, o))
    (ho : ∀ x, o = some x → x.Refuses) : s.CountsOnly t := by
  unfold State.visit at h
  split at h
  · obtain ⟨rfl, rfl⟩ := Prod.mk.inj h
    exact State.talkOn_countsOnly rfl (ho _ rfl)
  · obtain ⟨rfl, rfl⟩ := Prod.mk.inj h
    exact .refl s
  · obtain ⟨rfl, rfl⟩ := Prod.mk.inj h
    exact s.countRefusal_countsOnly r

/-- A group TALK refused on every return that it visits changes their counts alone (R85, R87). -/
theorem State.talkGroup_countsOnly (s : State) (g : TagId) (q : Request) :
    (∀ e ∈ (s.talkGroup g q).2, e.outcome.Refuses) → s.CountsOnly (s.talkGroup g q).1 :=
  foldl_keeps (fun d : State × List TalkEntry => (∀ e ∈ d.2, e.outcome.Refuses) → s.CountsOnly d.1) _
    (fun d r hd => by
      split
      · split
        · next t hv => exact fun h => (hd h).trans (State.visit_countsOnly hv fun x hx => (by cases hx))
        · next t o hv =>
          intro h
          have hlast : o.Refuses := h ⟨r, o⟩ (by simp)
          exact (hd fun e he => h e (List.mem_append_left _ he)).trans
            (State.visit_countsOnly hv fun x hx => Option.some.inj hx ▸ hlast)
      · exact hd)
    (List.finRange 24) (s, []) fun _ => .refl s

/-- A group TALK whose answer is not OK was taken on no return (R87). -/
theorem refuses_of_groupAnswer {h : Fin 8} {es : List TalkEntry} (hne : (groupAnswer h es).result ≠ .ok) :
    ∀ e ∈ es, e.outcome.Refuses := by
  have hcounts : (talkCounts es).active = 0 ∧ (talkCounts es).queued = 0 := by
    have hgroup : groupResult (talkCounts es) ≠ .ok := hne
    unfold groupResult at hgroup
    split_ifs at hgroup <;> simp_all
  rw [talkCounts_eq] at hcounts
  intro e he
  obtain ⟨hactive, hqueued⟩ := hcounts
  have ha := List.filter_eq_nil_iff.mp (List.length_eq_zero_iff.mp hactive) e he
  have hq := List.filter_eq_nil_iff.mp (List.length_eq_zero_iff.mp hqueued) e he
  cases ho : e.outcome with
  | active p d => rw [ho] at ha; exact absurd rfl ha
  | queued n => rw [ho] at hq; exact absurd rfl hq
  | refused c => exact ⟨c, rfl⟩

/-- An owner's answer is OK, or its state differs from the one it found in refusal counts alone. -/
def AnsweredCounting (s : State) (d : State × Answer) : Prop := d.2.result = .ok ∨ s.CountsOnly d.1

theorem Answered.counting {s : State} {d : State × Answer} (h : Answered s d) : AnsweredCounting s d := by
  obtain hok | hs := h
  · exact .inl hok
  · exact .inr (by rw [hs]; exact .refl s)

theorem ownerTalkDirect_counting (s : State) (o : Byte) (ret : BitVec 7) (m p h : Byte) :
    AnsweredCounting s (ownerTalkDirect o ret m p h s) := by
  unfold ownerTalkDirect
  split
  · next i r mode pr _ _ _ _ =>
    cases ho : (s.talkOn r (directRequest i r mode pr (holdCodeArg h) .port)).2 with
    | active pre d => exact .inl (by simp only [ho]; rfl)
    | queued n => exact .inl (by simp only [ho]; rfl)
    | refused c => exact .inr (State.talkOn_countsOnly rfl ⟨c, ho⟩)
  · exact (answered_same s _).counting

theorem ownerTalkTag_counting (s : State) (o : Byte) (tag : BitVec 7) (m p h : Byte) :
    AnsweredCounting s (ownerTalkTag o tag m p h s) := by
  unfold ownerTalkTag
  split
  · next i g mode pr _ _ _ _ =>
    dsimp only [AnsweredCounting]
    refine or_iff_not_imp_left.mpr fun hne => ?_
    exact State.talkGroup_countsOnly s g (groupRequest i g mode pr (holdCodeArg h) .port) (refuses_of_groupAnswer hne)
  · exact (answered_same s _).counting

/-! ### Every controller command -/

/-- A command whose owner leaves the state where it refuses. -/
theorem refusal_of_answered {c : Instr} {f : CommandFrame} {s : State} {owner : State → State × Answer}
    (hf : commandFrame c = some f) (h : s.Holds f.port f.code f.params) (he : exec c s = s.perform c owner)
    (ho : Answered s (owner s)) :
    ∃ (t : State) (a : Answer), exec c s = .next (t.answer f.port f.code a) ∧
      (a.result ≠ .ok → s.CountsOnly t ∧ (f.code ≠ 0x40 → t = s)) := by
  refine ⟨(owner s).1, (owner s).2, he.trans (State.perform_of_holds owner hf h), fun hne => ?_⟩
  have hs : (owner s).1 = s := ho.resolve_left hne
  exact ⟨by rw [hs]; exact .refl s, fun _ => hs⟩

/-- A command of code 0x40 (TALK), whose owner counts where it refuses. -/
theorem refusal_of_counting {c : Instr} {f : CommandFrame} {s : State} {owner : State → State × Answer}
    (hf : commandFrame c = some f) (h : s.Holds f.port f.code f.params) (he : exec c s = s.perform c owner)
    (ho : AnsweredCounting s (owner s)) (hcode : f.code = 0x40) :
    ∃ (t : State) (a : Answer), exec c s = .next (t.answer f.port f.code a) ∧
      (a.result ≠ .ok → s.CountsOnly t ∧ (f.code ≠ 0x40 → t = s)) :=
  ⟨(owner s).1, (owner s).2, he.trans (State.perform_of_holds owner hf h), fun hne =>
    ⟨ho.resolve_left hne, fun hother => absurd hcode hother⟩⟩

/-- A controller command that its port holds is answered, and a refusal changes refusal counts of TALK alone (R65, R166). -/
theorem exec_refusal (c : Instr) {f : CommandFrame} {s : State} (hf : commandFrame c = some f) (h : s.Holds f.port f.code f.params) :
    ∃ (t : State) (a : Answer), exec c s = .next (t.answer f.port f.code a) ∧
      (a.result ≠ .ok → s.CountsOnly t ∧ (f.code ≠ 0x40 → t = s)) := by
  cases c with
  | readSource | readReturn | readConference | readStatus | readKey | readCell | readWatch =>
    exact refusal_of_answered hf h rfl (answered_same s _)
  | setAirDelay | setRampSteps | setWatch | setDebounce => exact refusal_of_answered hf h rfl (answered_ok s _ _)
  | acknowledge p kinds => exact refusal_of_answered hf h rfl (ownerAcknowledge_answered s p kinds)
  | setNoticeMask p kinds => exact refusal_of_answered hf h rfl (ownerSetNoticeMask_answered s p kinds)
  | setSourceKind b k => exact refusal_of_answered hf h rfl (ownerSetSourceKind_answered s b k)
  | setFaders es => exact refusal_of_answered hf h rfl (ownerSetFaders_answered s es)
  | setSourceOn es => exact refusal_of_answered hf h rfl (ownerSetSourceOn_answered s es)
  | take b => exact refusal_of_answered hf h rfl (ownerTake_answered s b)
  | drop b => exact refusal_of_answered hf h rfl (ownerDrop_answered s b)
  | setReturn es => exact refusal_of_answered hf h rfl (ownerSetReturn_answered s es)
  | setMinusList r bs => exact refusal_of_answered hf h rfl (ownerSetMinusList_answered s r bs)
  | clearReturn r => exact refusal_of_answered hf h rfl (ownerClearReturn_answered s r)
  | setAirFeed b => exact refusal_of_answered hf h rfl (ownerSetAirFeed_answered s b)
  | selectMonitor r => exact refusal_of_answered hf h rfl (ownerSelectMonitor_answered s r)
  | attach b => exact refusal_of_answered hf h rfl (ownerAttach_answered s b)
  | detach b => exact refusal_of_answered hf h rfl (ownerDetach_answered s b)
  | screen b => exact refusal_of_answered hf h rfl (ownerScreen_answered s b)
  | park b => exact refusal_of_answered hf h rfl (ownerPark_answered s b)
  | markReady b => exact refusal_of_answered hf h rfl (ownerMarkReady_answered s b)
  | attachReturn r b => exact refusal_of_answered hf h rfl (ownerAttachReturn_answered s r b)
  | join b k => exact refusal_of_answered hf h rfl (ownerJoin_answered s b k)
  | leave b => exact refusal_of_answered hf h rfl (ownerLeave_answered s b)
  | setConference k g b => exact refusal_of_answered hf h rfl (ownerSetConference_answered s k g b)
  | talkDirect o r m p hc =>
    obtain rfl := Option.some.inj hf
    exact refusal_of_counting hf h rfl (ownerTalkDirect_counting s o r m p hc) rfl
  | talkTag o g m p hc =>
    obtain rfl := Option.some.inj hf
    exact refusal_of_counting hf h rfl (ownerTalkTag_counting s o g m p hc) rfl
  | releaseDirect o r => exact refusal_of_answered hf h rfl (ownerReleaseDirect_answered s o r)
  | releaseTag o g => exact refusal_of_answered hf h rfl (ownerReleaseTag_answered s o g)
  | setTalkLevel b l => exact refusal_of_answered hf h rfl (ownerSetTalkLevel_answered s b l)
  | setDipLevel r l => exact refusal_of_answered hf h rfl (ownerSetDipLevel_answered s r l)
  | setTags r a b c d => exact refusal_of_answered hf h rfl (ownerSetTags_answered s r a b c d)
  | bindKey n o g m p hc l km => exact refusal_of_answered hf h rfl (ownerBindKey_answered s n o g m p hc l km)
  | unbindKey n => exact refusal_of_answered hf h rfl (ownerUnbindKey_answered s n)
  | clearRefusals r => exact refusal_of_answered hf h rfl (ownerClearRefusals_answered s r)
  | commandTransaction | fetch | invalidTransaction | frameArrival | silenceLimitReached | watchIntervalExpiry | airExitGuardExpiry
  | holdExpiry | shortFrame | syncLoss | keyLineChange | keyAcceptance | recomposeTake | recomposeCompletion | deviceReset
  | deviceResetEnd | frameSyncRisingEdge => cases hf

end Sys2Proof.Machine

namespace Sys2Proof.Proofs

open Machine

/-- Settles O13, by `exec_refusal`. -/
theorem refusedCommandsChangeNothingElse : Obligations.RefusedCommandsChangeNothingElse := by
  intro c f s hf h
  obtain ⟨t, a, he, ha⟩ := exec_refusal c hf h
  refine ⟨t, a, he, fun hne => ?_⟩
  obtain ⟨hcounts, hsame⟩ := ha hne
  exact ⟨hcounts.records, hcounts.rest, hsame⟩

end Sys2Proof.Proofs
end

section
/-! ## The waiting commands

No command looks at the queue of waiting commands or moves it (log entry 1): every operation answers for one queue what it answers for
another, with the queue carried over. -/

namespace Sys2Proof.Machine

/-- The state with other commands waiting. -/
def State.pend (s : State) (q : List Instr) : State := { s with pending := q }

/-- A result with other commands waiting. -/
def pendFst {α : Type} (q : List Instr) (d : State × α) : State × α := (d.1.pend q, d.2)

section Operations

variable (s : State) (q : List Instr)

@[simp] theorem pendFst_mk {α : Type} (a : α) : pendFst q (s, a) = (s.pend q, a) := rfl
@[simp] theorem pendFst_fst {α : Type} (d : State × α) : (pendFst q d).1 = d.1.pend q := rfl
@[simp] theorem pendFst_snd {α : Type} (d : State × α) : (pendFst q d).2 = d.2 := rfl

/-! ### What the operations read -/

@[simp] theorem State.pend_sources : (s.pend q).sources = s.sources := rfl
@[simp] theorem State.pend_airDelay : (s.pend q).airDelay = s.airDelay := rfl
@[simp] theorem State.pend_returns : (s.pend q).returns = s.returns := rfl
@[simp] theorem State.pend_conferences : (s.pend q).conferences = s.conferences := rfl
@[simp] theorem State.pend_arbiter : (s.pend q).arbiter = s.arbiter := rfl
@[simp] theorem State.pend_keys : (s.pend q).keys = s.keys := rfl
@[simp] theorem State.pend_queue : (s.pend q).queue = s.queue := rfl
@[simp] theorem State.pend_inFlight : (s.pend q).inFlight = s.inFlight := rfl
@[simp] theorem State.pend_clips : (s.pend q).clips = s.clips := rfl
@[simp] theorem State.pend_sync : (s.pend q).sync = s.sync := rfl
@[simp] theorem State.pend_inReset : (s.pend q).inReset = s.inReset := rfl
@[simp] theorem State.pend_port (p : Port) : (s.pend q).port p = s.port p := rfl

/-! ### Writers -/

@[simp] theorem State.setPort_pend (p : Port) (x : PortState) : (s.pend q).setPort p x = (s.setPort p x).pend q := rfl
@[simp] theorem State.setSource_pend (i : SourceId) (x : Source) : (s.pend q).setSource i x = (s.setSource i x).pend q := rfl
@[simp] theorem State.setReturn_pend (r : ReturnId) (x : Return) : (s.pend q).setReturn r x = (s.setReturn r x).pend q := rfl
@[simp] theorem State.setConference_pend (k : ConferenceId) (x : Conference) :
    (s.pend q).setConference k x = (s.setConference k x).pend q := rfl
@[simp] theorem State.setKey_pend (n : KeyId) (x : Key) : (s.pend q).setKey n x = (s.setKey n x).pend q := rfl
@[simp] theorem State.raise_pend (k : NoticeKind) (i : Nat) : (s.pend q).raise k i = (s.raise k i).pend q := rfl
@[simp] theorem State.mark_pend (ρ : Row) (talk : Bool) : (s.pend q).mark ρ talk = (s.mark ρ talk).pend q := rfl

@[simp] theorem State.markRows_pend (p : Row → Bool) : (s.pend q).markRows p = (s.markRows p).pend q := by
  rw [State.markRows_eq, State.markRows_eq]
  rfl

@[simp] theorem State.markUnlessEmpty_pend {α : Type} (es : List α) (p : Row → Bool) :
    (s.pend q).markUnlessEmpty es p = (s.markUnlessEmpty es p).pend q := by
  unfold State.markUnlessEmpty
  split <;> simp

/-- A loop whose rounds carry the queue over. -/
theorem foldl_pend {β : Type} {f : State → β → State} (h : ∀ t b, f (t.pend q) b = (f t b).pend q) (l : List β) :
    l.foldl f (s.pend q) = (l.foldl f s).pend q :=
  List.foldl_hom (fun t : State => t.pend q) h

/-- A loop with a report. -/
theorem foldl_pendFst {α β : Type} {f : State × α → β → State × α} (h : ∀ d b, f (pendFst q d) b = pendFst q (f d b))
    (l : List β) (a : α) : l.foldl f (s.pend q, a) = pendFst q (l.foldl f (s, a)) :=
  List.foldl_hom (pendFst q) h (init := (s, a))

/-! ### Conferences and sources -/

@[simp] theorem State.exitConference_pend (i : SourceId) : (s.pend q).exitConference i = (s.exitConference i).pend q := by
  unfold State.exitConference
  dsimp only [State.pend_sources]
  split <;> rfl

@[simp] theorem State.enterConference_pend (i : SourceId) (k : ConferenceId) :
    (s.pend q).enterConference i k = (s.enterConference i k).pend q := by
  unfold State.enterConference
  dsimp only [State.pend_sources]
  split <;> rfl

theorem State.writeFader_pend (e : Byte × Coeff) : (s.pend q).writeFader e = (s.writeFader e).pend q := by
  unfold State.writeFader
  split <;> rfl

theorem State.writeOn_pend (e : Byte × Byte) : (s.pend q).writeOn e = (s.writeOn e).pend q := by
  unfold State.writeOn
  split <;> rfl

theorem State.writeReturn_pend (e : ReturnEntry) : (s.pend q).writeReturn e = (s.writeReturn e).pend q := by
  unfold State.writeReturn
  split <;> rfl

/-! ### The arbiter -/

@[simp] theorem State.talkOn_pend (r : ReturnId) (x : Request) : (s.pend q).talkOn r x = pendFst q (s.talkOn r x) := by
  unfold State.talkOn
  have hv : (s.pend q).listenerVacant r = s.listenerVacant r := rfl
  dsimp only [State.pend_arbiter]
  rw [hv]
  split <;> rfl

theorem State.visit_pend (r : ReturnId) (x : Request) : (s.pend q).visit r x = pendFst q (s.visit r x) := by
  unfold State.visit
  dsimp only [State.pend_returns]
  split
  · simp
  · rfl
  · rfl

@[simp] theorem State.talkGroup_pend (t : TagId) (x : Request) : (s.pend q).talkGroup t x = pendFst q (s.talkGroup t x) := by
  refine foldl_pendFst s q (fun d r => ?_) _ []
  rw [pendFst_fst, pendFst_snd, State.pend_returns, State.visit_pend]
  split
  · rcases d.1.visit r x with ⟨u, _ | o⟩ <;> rfl
  · rfl

theorem State.releaseOn_pend (r : ReturnId) (p : Request → Bool) : (s.pend q).releaseOn r p = pendFst q (s.releaseOn r p) := by
  unfold State.releaseOn
  dsimp only [State.pend_arbiter]
  split
  · rfl
  · split_ifs <;> rfl

@[simp] theorem State.releaseAll_pend (p : Request → Bool) : (s.pend q).releaseAll p = pendFst q (s.releaseAll p) := by
  refine foldl_pendFst s q (fun d r => ?_) _ []
  rw [pendFst_fst, pendFst_snd, State.releaseOn_pend]
  rcases d.1.releaseOn r p with ⟨u, _ | rel⟩ <;> rfl

@[simp] theorem State.listenerGone_pend (r : ReturnId) : (s.pend q).listenerGone r = (s.listenerGone r).pend q := by
  unfold State.listenerGone
  dsimp only [State.pend_arbiter]
  split_ifs <;> rfl

@[simp] theorem State.listenersGone_pend (i : SourceId) : (s.pend q).listenersGone i = (s.listenersGone i).pend q := by
  refine foldl_pend s q (fun t r => ?_) _
  rw [State.pend_returns]
  split <;> simp

@[simp] theorem State.expireHold_pend (r : ReturnId) : (s.pend q).expireHold r = (s.expireHold r).pend q := by
  unfold State.expireHold
  dsimp only [State.pend_arbiter]
  split_ifs <;> rfl

/-! ### Stages and returns -/

@[simp] theorem State.moveStage_pend (i : SourceId) (g : Stage) : (s.pend q).moveStage i g = (s.moveStage i g).pend q :=
  State.markRows_pend (s.setStage i g) q (s.attachedRow i)

@[simp] theorem State.putOnAir_pend (i : SourceId) : (s.pend q).putOnAir i = (s.putOnAir i).pend q := by simp [State.putOnAir]

@[simp] theorem State.dropToHold_pend (i : SourceId) : (s.pend q).dropToHold i = (s.dropToHold i).pend q := by
  unfold State.dropToHold
  rw [State.pend_airDelay, State.pend_sources]
  simp

@[simp] theorem State.endCall_pend (i : SourceId) : (s.pend q).endCall i = (s.endCall i).pend q := by
  have hrows : (s.pend q).dependentRow i = s.dependentRow i := rfl
  simp [State.endCall, hrows]

@[simp] theorem State.forceDrop_pend (i : SourceId) : (s.pend q).forceDrop i = (s.forceDrop i).pend q := by simp [State.forceDrop]

@[simp] theorem State.expireGuard_pend (i : SourceId) : (s.pend q).expireGuard i = (s.expireGuard i).pend q :=
  State.markRows_pend (s.setSource i { s.sources[i] with guard := none }) q (s.minusRow i)

@[simp] theorem State.link_pend (r : ReturnId) (a : Option SourceId) : (s.pend q).link r a = (s.link r a).pend q := by
  unfold State.link
  rw [State.pend_returns, State.pend_sources, State.setReturn_pend, State.markRows_pend]
  split
  · rfl
  · split <;> simp

/-! ### Keys -/

@[simp] theorem State.keyTalk_pend (n : KeyId) (b : Binding) : (s.pend q).keyTalk n b = pendFst q (s.keyTalk n b) := by
  unfold State.keyTalk
  split <;> simp

@[simp] theorem State.keyRelease_pend (b : Binding) : (s.pend q).keyRelease b = pendFst q (s.keyRelease b) := by
  unfold State.keyRelease
  split
  · rw [State.releaseOn_pend]
    rcases s.releaseOn _ _ with ⟨u, _ | rel⟩ <;> rfl
  · simp

@[simp] theorem State.recordOutcome_pend (d : State × KeyOutcome) (n : KeyId) :
    State.recordOutcome (pendFst q d) n = (State.recordOutcome d n).pend q := rfl

@[simp] theorem State.pressKey_pend (n : KeyId) (b : Binding) : (s.pend q).pressKey n b = (s.pressKey n b).pend q := by
  unfold State.pressKey
  dsimp only [State.pend_keys, State.setKey_pend]
  split
  · simp
  · have hfinds (t : State) : (t.pend q).keyFinds b = t.keyFinds b := rfl
    rw [hfinds]
    split <;> simp

@[simp] theorem State.releaseKey_pend (n : KeyId) (b : Binding) : (s.pend q).releaseKey n b = (s.releaseKey n b).pend q := by
  unfold State.releaseKey
  dsimp only [State.pend_keys]
  split <;> simp

@[simp] theorem State.acceptKey_pend (n : KeyId) : (s.pend q).acceptKey n = (s.acceptKey n).pend q := by
  unfold State.acceptKey
  dsimp only [State.pend_keys, State.setKey_pend]
  split
  · rfl
  · split <;> simp

@[simp] theorem State.unbind_pend (n : KeyId) : (s.pend q).unbind n = pendFst q (s.unbind n) := by
  simp [State.unbind]

/-! ### Frames and the composer -/

theorem State.hearSource_pend (x : Vector Sample 32) (i : SourceId) : (s.pend q).hearSource x i = (s.hearSource x i).pend q := by
  unfold State.hearSource
  dsimp only [State.pend_sources]
  have hlimit : (s.pend q).silenceLimit = s.silenceLimit := rfl
  have hthreshold : (s.pend q).silenceThreshold = s.silenceThreshold := rfl
  rw [hlimit, hthreshold]
  split_ifs <;> rfl

theorem State.countClip_pend (r : ReturnId) : (s.pend q).countClip r = (s.countClip r).pend q := by
  unfold State.countClip
  have hthreshold : (s.pend q).clipThreshold = s.clipThreshold := rfl
  dsimp only [State.pend_clips]
  rw [hthreshold]
  generalize (if s.clips[r].count < Config.maxClips then s.clips[r].count + 1 else s.clips[r].count) = n
  split <;> rfl

@[simp] theorem State.hearAll_pend (x : Vector Sample 32) : (s.pend q).hearAll x = (s.hearAll x).pend q :=
  foldl_pend s q (fun t i => t.hearSource_pend q x i) _

@[simp] theorem State.countClips_pend (flags : Vector Bool 24) : (s.pend q).countClips flags = (s.countClips flags).pend q :=
  foldl_pend s q (fun t r => by split <;> [exact t.countClip_pend q r; rfl]) _

@[simp] theorem State.watchTick_pend : (s.pend q).watchTick = s.watchTick.pend q := by
  have hclose : (s.pend q).closeInterval = s.closeInterval.pend q := by
    unfold State.closeInterval
    dsimp only
    have hfold := foldl_pend s q (f := fun t (r : ReturnId) => if s.reportsClip r then t.raise .clipReport r.val else t)
      (fun t r => by split <;> rfl) (List.finRange 24)
    have hreports : (s.pend q).reportsClip = s.reportsClip := rfl
    rw [hreports, hfold]
    rfl
  have hremaining : (s.pend q).watchRemaining = s.watchRemaining := rfl
  unfold State.watchTick
  rw [hclose, hremaining]
  split <;> rfl

@[simp] theorem State.lockSync_pend : (s.pend q).lockSync = s.lockSync.pend q := by
  unfold State.lockSync
  dsimp only [State.pend_sync]
  split <;> rfl

@[simp] theorem State.takeFrame_pend (slots : Vector SlotWord 32) : (s.pend q).takeFrame slots = (s.takeFrame slots).pend q := by
  have hmixed : ((s.pend q).endFrame.mix (frameSamples slots)).tickGuards.tickHolds =
      ((s.endFrame.mix (frameSamples slots)).tickGuards.tickHolds).pend q := rfl
  have hflags : (s.pend q).clipFlags (frameSamples slots) = s.clipFlags (frameSamples slots) := rfl
  simp [State.takeFrame, hmixed, hflags]

@[simp] theorem State.takeRow_pend : (s.pend q).takeRow = s.takeRow.pend q := by
  unfold State.takeRow
  dsimp only [State.pend_inFlight, State.pend_queue]
  split <;> rfl

@[simp] theorem State.completeRow_pend : (s.pend q).completeRow = s.completeRow.pend q := by
  unfold State.completeRow
  dsimp only [State.pend_inFlight]
  split <;> rfl

/-! ### Transactions -/

@[simp] theorem State.arrive_pend (p : Port) (frame : List Byte) (clocked : Nat) :
    (s.pend q).arrive p frame clocked = (s.arrive p frame clocked).pend q := by
  unfold State.arrive
  dsimp only [State.pend_port]
  split <;> rfl

@[simp] theorem State.transact_pend (p : Port) (bits : List Bool) : (s.pend q).transact p bits = (s.transact p bits).pend q := by
  unfold State.transact
  split
  · rfl
  · split <;> simp

end Operations
/-! ### The commands of the owning blocks -/

/-- An owning block that answers the same for every queue of waiting commands, and carries the queue over. -/
def CarriesQueue (owner : State → State × Answer) : Prop := ∀ s q, owner (s.pend q) = pendFst q (owner s)

theorem carriesQueue_withRemote (b : Byte) {act : State → SourceId → State × Answer}
    (h : ∀ i s q, act (s.pend q) i = pendFst q (act s i)) : CarriesQueue fun s => s.withRemote b (act s) := fun s q => by
  unfold State.withRemote
  beta_reduce
  rw [State.pend_sources]
  split
  · rfl
  · split
    · exact h _ s q
    · rfl

theorem ownerAttach_carriesQueue (b : Byte) : CarriesQueue (ownerAttach b) :=
  carriesQueue_withRemote b fun i s q => by
    rw [State.pend_sources]
    split <;> simp

theorem ownerScreen_carriesQueue (b : Byte) : CarriesQueue (ownerScreen b) :=
  carriesQueue_withRemote b fun i s q => by
    rw [State.pend_sources]
    split <;> simp

theorem ownerPark_carriesQueue (b : Byte) : CarriesQueue (ownerPark b) :=
  carriesQueue_withRemote b fun i s q => by
    rw [State.pend_sources]
    split <;> simp

theorem ownerMarkReady_carriesQueue (b : Byte) : CarriesQueue (ownerMarkReady b) :=
  carriesQueue_withRemote b fun i s q => by
    rw [State.pend_sources]
    split <;> simp

theorem ownerTake_carriesQueue (b : Byte) : CarriesQueue (ownerTake b) :=
  carriesQueue_withRemote b fun i s q => by
    rw [State.pend_sources]
    split <;> simp

theorem ownerDrop_carriesQueue (b : Byte) : CarriesQueue (ownerDrop b) :=
  carriesQueue_withRemote b fun i s q => by
    rw [State.pend_sources]
    split <;> simp

theorem ownerDetach_carriesQueue (b : Byte) : CarriesQueue (ownerDetach b) :=
  carriesQueue_withRemote b fun i s q => by
    rw [State.pend_sources]
    split <;> simp

theorem ownerSetSourceKind_carriesQueue (source kind : Byte) : CarriesQueue (ownerSetSourceKind source kind) := fun s q => by
  have hfree : (s.pend q).free = s.free := rfl
  unfold ownerSetSourceKind
  rw [hfree]
  split
  · split <;> rfl
  · rfl

theorem ownerSetFaders_carriesQueue (es : List (Byte × Coeff)) : CarriesQueue (ownerSetFaders es) := fun s q => by
  have hcheck : checkFader (s.pend q) = checkFader s := rfl
  unfold ownerSetFaders
  rw [hcheck, foldl_pend s q (fun t e => t.writeFader_pend q e)]
  split <;> simp

theorem ownerSetSourceOn_carriesQueue (es : List (Byte × Byte)) : CarriesQueue (ownerSetSourceOn es) := fun s q => by
  have hcheck : checkOn (s.pend q) = checkOn s := rfl
  unfold ownerSetSourceOn
  rw [hcheck, foldl_pend s q (fun t e => t.writeOn_pend q e)]
  split <;> simp

theorem ownerSetReturn_carriesQueue (es : List ReturnEntry) : CarriesQueue (ownerSetReturn es) := fun s q => by
  unfold ownerSetReturn
  rw [foldl_pend s q (fun t e => t.writeReturn_pend q e)]
  split <;> simp

theorem ownerSetAirFeed_carriesQueue (source : Byte) : CarriesQueue (ownerSetAirFeed source) := fun s q => by
  unfold ownerSetAirFeed
  rw [State.pend_sources]
  simp only [State.markRows_eq]
  split
  · rfl
  · rfl
  · split <;> rfl

theorem ownerSetMinusList_carriesQueue (ret : Byte) (bs : List Byte) : CarriesQueue (ownerSetMinusList ret bs) := fun s q => by
  have hcheck : checkMinus (s.pend q) = checkMinus s := rfl
  unfold ownerSetMinusList
  rw [hcheck]
  split
  · rfl
  · split
    · rfl
    · split <;> simp

theorem ownerClearReturn_carriesQueue (ret : Byte) : CarriesQueue (ownerClearReturn ret) := fun s q => by
  unfold ownerClearReturn
  split <;> simp

theorem ownerSelectMonitor_carriesQueue (ret : Byte) : CarriesQueue (ownerSelectMonitor ret) := fun s q => by
  unfold ownerSelectMonitor
  split <;> rfl

theorem ownerAttachReturn_carriesQueue (ret source : Byte) : CarriesQueue (ownerAttachReturn ret source) := fun s q => by
  have helsewhere : (s.pend q).attachedElsewhere = s.attachedElsewhere := rfl
  unfold ownerAttachReturn
  rw [State.pend_returns, State.pend_sources, helsewhere]
  split
  · dsimp only
    split_ifs <;> simp
  · rfl

theorem ownerSetDipLevel_carriesQueue (ret : Byte) (l : Coeff) : CarriesQueue (ownerSetDipLevel ret l) := fun s q => by
  unfold ownerSetDipLevel
  split <;> simp

theorem ownerSetTags_carriesQueue (ret b0 b1 b2 d : Byte) : CarriesQueue (ownerSetTags ret b0 b1 b2 d) := fun s q => by
  unfold ownerSetTags
  split
  · dsimp only
    split <;> simp
  · rfl

theorem ownerClearRefusals_carriesQueue (ret : Byte) : CarriesQueue (ownerClearRefusals ret) := fun s q => by
  unfold ownerClearRefusals
  split <;> rfl

theorem ownerJoin_carriesQueue (source conference : Byte) : CarriesQueue (ownerJoin source conference) := fun s q => by
  have hown : (s.pend q).ownConferenceRow = s.ownConferenceRow := rfl
  have hmember (t : State) : (t.pend q).memberRow = t.memberRow := rfl
  unfold ownerJoin
  rw [State.pend_sources, State.pend_conferences]
  split
  · dsimp only
    rw [State.enterConference_pend, hown, hmember]
    split_ifs <;> simp
  · rfl

theorem ownerLeave_carriesQueue (source : Byte) : CarriesQueue (ownerLeave source) := fun s q => by
  unfold ownerLeave
  rw [State.pend_sources]
  split
  · rfl
  · next i _ =>
    split
    · rfl
    · next k _ => exact Prod.ext (State.markRows_pend ((s.unlist k i).setMembership i none) q (s.memberRow k)) rfl

theorem ownerSetConference_carriesQueue (conference : Byte) (g b : Coeff) : CarriesQueue (ownerSetConference conference g b) := fun s q => by
  have hmember : (s.pend q).memberRow = s.memberRow := rfl
  unfold ownerSetConference
  rw [hmember]
  split <;> simp

theorem ownerTalkDirect_carriesQueue (o : Byte) (ret : BitVec 7) (m p h : Byte) : CarriesQueue (ownerTalkDirect o ret m p h) := fun s q => by
  have horiginator : (s.pend q).originatorArg = s.originatorArg := rfl
  unfold ownerTalkDirect
  rw [horiginator]
  split
  · rw [State.talkOn_pend]
    rfl
  · rfl

theorem ownerTalkTag_carriesQueue (o : Byte) (tag : BitVec 7) (m p h : Byte) : CarriesQueue (ownerTalkTag o tag m p h) := fun s q => by
  have horiginator : (s.pend q).originatorArg = s.originatorArg := rfl
  unfold ownerTalkTag
  rw [horiginator]
  split <;> simp

theorem ownerReleaseDirect_carriesQueue (o : Byte) (ret : BitVec 7) : CarriesQueue (ownerReleaseDirect o ret) := fun s q => by
  have horiginator : (s.pend q).originatorArg = s.originatorArg := rfl
  unfold ownerReleaseDirect
  rw [horiginator]
  split
  · next i r _ _ =>
    rw [State.releaseOn_pend]
    rcases s.releaseOn r (byOriginator i) with ⟨u, _ | rel⟩ <;> rfl
  · rfl

theorem ownerReleaseTag_carriesQueue (o : Byte) (tag : BitVec 7) : CarriesQueue (ownerReleaseTag o tag) := fun s q => by
  have horiginator : (s.pend q).originatorArg = s.originatorArg := rfl
  unfold ownerReleaseTag
  rw [horiginator]
  split <;> simp

theorem ownerSetTalkLevel_carriesQueue (source : Byte) (l : Coeff) : CarriesQueue (ownerSetTalkLevel source l) := fun s q => by
  have horiginator : (s.pend q).originatorArg = s.originatorArg := rfl
  have htalking : (s.pend q).talkingRow = s.talkingRow := rfl
  unfold ownerSetTalkLevel
  rw [horiginator, htalking]
  split <;> simp

theorem ownerBindKey_carriesQueue (key o target m p h l km : Byte) : CarriesQueue (ownerBindKey key o target m p h l km) := fun s q => by
  have hargs : (s.pend q).bindArgs = s.bindArgs := rfl
  unfold ownerBindKey
  rw [hargs, State.pend_keys]
  split
  · next n b level mode _ _ =>
    have hunbound : (if s.keys[n].binding.isSome then (s.pend q).unbind n else (s.pend q, 0)) =
        pendFst q (if s.keys[n].binding.isSome then s.unbind n else (s, 0)) := by split <;> simp
    dsimp only
    rw [hunbound]
    rfl
  · rfl

theorem ownerUnbindKey_carriesQueue (key : Byte) : CarriesQueue (ownerUnbindKey key) := fun s q => by
  unfold ownerUnbindKey
  rw [State.pend_keys]
  split
  · rfl
  · split <;> simp

theorem ownerAcknowledge_carriesQueue (p : Port) (kinds : Byte) : CarriesQueue (ownerAcknowledge p kinds) := fun s q => by
  unfold ownerAcknowledge
  split <;> rfl

theorem ownerSetNoticeMask_carriesQueue (p : Port) (kinds : Byte) : CarriesQueue (ownerSetNoticeMask p kinds) := fun s q => by
  unfold ownerSetNoticeMask
  split <;> rfl

/-! ### Every command -/

/-- A command that answers a next state, whatever commands wait, and carries their queue over (log entry 1). -/
def AnswersForEveryQueue (e : State → Result) : Prop :=
  ∃ f : State → State, (∀ s, e s = .next (f s)) ∧ ∀ s q, f (s.pend q) = (f s).pend q

theorem State.runCommand_pend (s : State) (q : List Instr) (f : CommandFrame) {owner : State → State × Answer} (ho : CarriesQueue owner) :
    (s.pend q).runCommand f owner = (s.runCommand f owner).pend q := by
  have harrived : (if (s.port f.port).slot = .working f.code f.params then s.pend q
      else (s.arrive f.port f.bytes (frameBits f.bytes).length).pend q) =
      (if (s.port f.port).slot = .working f.code f.params then s
      else s.arrive f.port f.bytes (frameBits f.bytes).length).pend q := by split <;> rfl
  unfold State.runCommand
  rw [State.pend_inReset, State.pend_port, State.arrive_pend]
  dsimp only
  rw [harrived, State.pend_port, ho]
  generalize (if (s.port f.port).slot = .working f.code f.params then s else s.arrive f.port f.bytes (frameBits f.bytes).length) = t
  split_ifs <;> rfl

theorem answers_perform {c : Instr} {owner : State → State × Answer} (he : ∀ s, exec c s = s.perform c owner) (ho : CarriesQueue owner) :
    AnswersForEveryQueue (exec c) := by
  unfold State.perform at he
  cases hc : commandFrame c with
  | none => exact ⟨id, fun s => by rw [he, hc]; rfl, fun _ _ => rfl⟩
  | some f => exact ⟨fun s => s.runCommand f owner, fun s => by rw [he, hc], fun s q => s.runCommand_pend q f ho⟩

theorem answers_whenever {c : Instr} {condition : State → Bool} {event : State → State}
    (hc : ∀ s, exec c s = s.whenever (condition s) (event s)) (hcondition : ∀ s q, condition (s.pend q) = condition s)
    (hevent : ∀ s q, event (s.pend q) = (event s).pend q) : AnswersForEveryQueue (exec c) := by
  refine ⟨fun s => if s.inReset then s else if condition s then event s else s, fun s => ?_, fun s q => ?_⟩
  · rw [hc, State.whenever]
    beta_reduce
    split_ifs <;> rfl
  · beta_reduce
    rw [hcondition, hevent, State.pend_inReset]
    split_ifs <;> rfl

theorem execKeyLineChange_answers (n : KeyId) (level : Level) : AnswersForEveryQueue (execKeyLineChange n level) := by
  refine ⟨fun s => if s.keys[n].line = level then s
    else s.setKey n (if s.inReset then { s.keys[n] with line := level } else s.keys[n].follow level s.debounceTime), fun s => ?_, fun s q => ?_⟩
  · unfold execKeyLineChange
    beta_reduce
    split_ifs <;> rfl
  · dsimp only
    rw [State.pend_keys, State.pend_inReset]
    split_ifs <;> rfl

theorem execDeviceResetEnd_answers : AnswersForEveryQueue execDeviceResetEnd := by
  refine ⟨fun s => if s.inReset then s.leaveReset else s, fun s => ?_, fun s q => ?_⟩
  · unfold execDeviceResetEnd
    beta_reduce
    split_ifs <;> rfl
  · dsimp only
    rw [State.pend_inReset]
    split_ifs <;> rfl

theorem State.fallsSilent_pend (s : State) (q : List Instr) (i : SourceId) (slots : Vector SlotWord 32) :
    (s.pend q).fallsSilent i slots = s.fallsSilent i slots := by
  rw [State.fallsSilent, State.takeFrame_pend, State.pend_sources, State.pend_sources, State.fallsSilent]

theorem exec_answers (c : Instr) : AnswersForEveryQueue (exec c) := by
  cases c with
  | commandTransaction p frame => exact answers_whenever (fun _ => rfl) (fun _ _ => rfl) fun s q => s.transact_pend q p _
  | fetch p dataIn => exact answers_whenever (fun _ => rfl) (fun _ _ => rfl) fun s q => s.transact_pend q p _
  | invalidTransaction p stray => exact answers_whenever (fun _ => rfl) (fun _ _ => rfl) fun s q => s.transact_pend q p _
  | readSource | readReturn | readConference | readStatus | readKey | readCell | readWatch | setAirDelay | setRampSteps | setWatch
  | setDebounce => exact answers_perform (fun _ => rfl) fun _ _ => rfl
  | acknowledge p kinds => exact answers_perform (fun _ => rfl) (ownerAcknowledge_carriesQueue p kinds)
  | setNoticeMask p kinds => exact answers_perform (fun _ => rfl) (ownerSetNoticeMask_carriesQueue p kinds)
  | setSourceKind b k => exact answers_perform (fun _ => rfl) (ownerSetSourceKind_carriesQueue b k)
  | setFaders es => exact answers_perform (fun _ => rfl) (ownerSetFaders_carriesQueue es)
  | setSourceOn es => exact answers_perform (fun _ => rfl) (ownerSetSourceOn_carriesQueue es)
  | take b => exact answers_perform (fun _ => rfl) (ownerTake_carriesQueue b)
  | drop b => exact answers_perform (fun _ => rfl) (ownerDrop_carriesQueue b)
  | setReturn es => exact answers_perform (fun _ => rfl) (ownerSetReturn_carriesQueue es)
  | setMinusList r bs => exact answers_perform (fun _ => rfl) (ownerSetMinusList_carriesQueue r bs)
  | clearReturn r => exact answers_perform (fun _ => rfl) (ownerClearReturn_carriesQueue r)
  | setAirFeed b => exact answers_perform (fun _ => rfl) (ownerSetAirFeed_carriesQueue b)
  | selectMonitor r => exact answers_perform (fun _ => rfl) (ownerSelectMonitor_carriesQueue r)
  | attach b => exact answers_perform (fun _ => rfl) (ownerAttach_carriesQueue b)
  | detach b => exact answers_perform (fun _ => rfl) (ownerDetach_carriesQueue b)
  | screen b => exact answers_perform (fun _ => rfl) (ownerScreen_carriesQueue b)
  | park b => exact answers_perform (fun _ => rfl) (ownerPark_carriesQueue b)
  | markReady b => exact answers_perform (fun _ => rfl) (ownerMarkReady_carriesQueue b)
  | attachReturn r b => exact answers_perform (fun _ => rfl) (ownerAttachReturn_carriesQueue r b)
  | join b k => exact answers_perform (fun _ => rfl) (ownerJoin_carriesQueue b k)
  | leave b => exact answers_perform (fun _ => rfl) (ownerLeave_carriesQueue b)
  | setConference k g b => exact answers_perform (fun _ => rfl) (ownerSetConference_carriesQueue k g b)
  | talkDirect o r m p hc => exact answers_perform (fun _ => rfl) (ownerTalkDirect_carriesQueue o r m p hc)
  | talkTag o g m p hc => exact answers_perform (fun _ => rfl) (ownerTalkTag_carriesQueue o g m p hc)
  | releaseDirect o r => exact answers_perform (fun _ => rfl) (ownerReleaseDirect_carriesQueue o r)
  | releaseTag o g => exact answers_perform (fun _ => rfl) (ownerReleaseTag_carriesQueue o g)
  | setTalkLevel b l => exact answers_perform (fun _ => rfl) (ownerSetTalkLevel_carriesQueue b l)
  | setDipLevel r l => exact answers_perform (fun _ => rfl) (ownerSetDipLevel_carriesQueue r l)
  | setTags r a b c d => exact answers_perform (fun _ => rfl) (ownerSetTags_carriesQueue r a b c d)
  | bindKey n o g m p hc l km => exact answers_perform (fun _ => rfl) (ownerBindKey_carriesQueue n o g m p hc l km)
  | unbindKey n => exact answers_perform (fun _ => rfl) (ownerUnbindKey_carriesQueue n)
  | clearRefusals r => exact answers_perform (fun _ => rfl) (ownerClearRefusals_carriesQueue r)
  | frameArrival slots => exact answers_whenever (fun _ => rfl) (fun _ _ => rfl) fun s q => s.takeFrame_pend q slots
  | silenceLimitReached i slots =>
    refine answers_whenever (fun _ => rfl) (fun s q => ?_) fun s q => s.takeFrame_pend q slots
    exact congrArg (s.assembly.collects && ·) (s.fallsSilent_pend q i slots)
  | watchIntervalExpiry slots => exact answers_whenever (fun _ => rfl) (fun _ _ => rfl) fun s q => s.takeFrame_pend q slots
  | airExitGuardExpiry i => exact answers_whenever (fun _ => rfl) (fun _ _ => rfl) fun s q => s.expireGuard_pend q i
  | holdExpiry r => exact answers_whenever (fun _ => rfl) (fun _ _ => rfl) fun s q => s.expireHold_pend q r
  | shortFrame => exact answers_whenever (fun _ => rfl) (fun _ _ => rfl) fun _ _ => rfl
  | syncLoss => exact answers_whenever (fun _ => rfl) (fun _ _ => rfl) fun _ _ => rfl
  | keyLineChange n level => exact execKeyLineChange_answers n level
  | keyAcceptance n => exact answers_whenever (fun _ => rfl) (fun _ _ => rfl) fun s q => s.acceptKey_pend q n
  | recomposeTake => exact answers_whenever (fun _ => rfl) (fun _ _ => rfl) fun s q => s.takeRow_pend q
  | recomposeCompletion => exact answers_whenever (fun _ => rfl) (fun _ _ => rfl) fun s q => s.completeRow_pend q
  | deviceReset => exact ⟨State.enterReset, fun _ => rfl, fun _ _ => rfl⟩
  | deviceResetEnd => exact execDeviceResetEnd_answers
  | frameSyncRisingEdge => exact answers_whenever (fun _ => rfl) (fun _ _ => rfl) fun _ _ => rfl

end Sys2Proof.Machine

namespace Sys2Proof.Proofs

open Machine

/-- Settles O2, by `exec_answers`; that the queue stays is its law for the state's own queue. -/
theorem everyCommandCompletesAndIgnoresTheQueue : Obligations.EveryCommandCompletesAndIgnoresTheQueue := by
  intro c s
  obtain ⟨f, hnext, hqueue⟩ := exec_answers c
  have hown : f s = (f s).pend s.pending := hqueue s s.pending
  have hpending : (f s).pending = ((f s).pend s.pending).pending := congrArg State.pending hown
  exact ⟨f s, hnext s, hpending, fun q => (hnext (s.pend q)).trans (congrArg Host.Outcome.next (hqueue s q))⟩

end Sys2Proof.Proofs
end
